-- ==== Sys2Proof/Word.lean ====
section
/-! DEFINITION. The values of the block: bytes, byte sequences and the 16-bit EEPROM address (spec 00_scope.md R5, R6). -/

namespace Sys2Proof

/-- One stream item: 8 bits, unsigned (R5 `BYTE_W`, R6). -/
abbrev Byte := BitVec 8

/-- A finite byte sequence; `[]` is the spec's `ε` (R6). -/
abbrev Bytes := List Byte

/-- The address carried by a `W` frame: 16 bits, unsigned (R5 `ADDR_W`). -/
abbrev Addr := BitVec 16

end Sys2Proof
end

