-- ==== Sys2Proof/Syntax.lean ====
section
/-! DEFINITION. The instructions of the block: one constructor of `Instr` per row of spec/opcode_table.json, over the four
levels of 30_encoding.md R80 (received bytes, command frames, response payloads, host requests). -/

namespace Sys2Proof

/-- The six command letters (R84; no seventh can be written down, R135 and decision D20). -/
inductive Letter where
  | h | r | w | c | l | u
  deriving DecidableEq, Repr, Inhabited

/-- The host's requests (R90); they have no wire encoding, so they are constructors of a type. -/
inductive Request where
  | start
  | checkConnection
  | read
  | write (image : Bytes)
  | clear
  | lock
  | unlock
  | shutdown
  deriving DecidableEq, Repr, Inhabited

/-- The instructions. A level's rows stand together, in the order of spec/opcode_table.json. -/
inductive Instr where
  /-- `SOF`, the start marker (R82, R111). -/
  | sof
  /-- `EOF`, the end marker (R82, R112). -/
  | eof
  /-- `DATA`, any other received byte (R82, R113). -/
  | data (b : Byte)
  /-- Command frame `H`, hello (R84, R141). -/
  | h
  /-- Command frame `R`, read all (R84, R176). -/
  | r
  /-- Command frame `C`, clear (R84, R177). -/
  | c
  /-- Command frame `L`, lock (R84, R178). -/
  | l
  /-- Command frame `U`, unlock (R84, R179). -/
  | u
  /-- Command frame `W`, write one byte at one address (R84, R85, R191). -/
  | w (addr : Addr) (data : Byte)
  /-- Handshake payload `HELLO` (R87, R143). -/
  | hello
  /-- Handshake payload `OTHER`: any payload but `HELLO` (R87, R144). -/
  | other (p : Bytes)
  /-- Drain payload `OK` (R88, R158, R194). -/
  | ok
  /-- Drain payload `ERROR` (R88, R159). -/
  | error
  /-- Drain payload `INVALID` (R88, R160). -/
  | invalid (p : Bytes)
  /-- Drain payload `RECORD(a, d)` (R88, R162). -/
  | record (a d : Bytes)
  /-- Request `START` (R90, R140). -/
  | start
  /-- Request `CHECK_CONNECTION` (R90, R141). -/
  | checkConnection
  /-- Request `READ` (R90, R176). -/
  | read
  /-- Request `WRITE image` (R90, R193). -/
  | write (image : Bytes)
  /-- Request `CLEAR` (R90, R177). -/
  | clear
  /-- Request `LOCK` (R90, R178). -/
  | lock
  /-- Request `UNLOCK` (R90, R179). -/
  | unlock
  /-- Request `SHUTDOWN` (R90, R230). -/
  | shutdown
  deriving DecidableEq, Repr

/-- The four levels of R80, the response level split by context as R87 and R88 split it. -/
inductive Level where
  | rxByte | cmd | rspHandshake | rspDrain | req
  deriving DecidableEq, Repr

/-- The level an instruction belongs to (R80, R93 `format` and `context`). -/
def Instr.level : Instr → Level
  | .sof | .eof | .data _ => .rxByte
  | .h | .r | .c | .l | .u | .w _ _ => .cmd
  | .hello | .other _ => .rspHandshake
  | .ok | .error | .invalid _ | .record _ _ => .rspDrain
  | .start | .checkConnection | .read | .write _ | .clear | .lock | .unlock | .shutdown => .req

/-- The classes of a payload in the handshake (R87). -/
inductive HsClass where
  | hello
  | other
  deriving DecidableEq, Repr

/-- The classes of a payload in the response drain (R88). -/
inductive DrainClass where
  | ok
  | error
  | invalid
  | record (a d : Bytes)
  deriving DecidableEq, Repr

end Sys2Proof
end

