-- ==== Sys2Proof/Config.lean ====
section
/-! DEFINITION. The parameters of the block (00_scope.md R5), the byte values it is built from (30_encoding.md R81), and what
the environment may answer (20_memory.md R53 to R55), with the two free values that stand for the environment's choices. -/

namespace Sys2Proof

namespace Config

/-- Start-of-frame marker `<` (R5 `SOF`, R81). -/
def SOF : Byte := 0x3C#8
/-- End-of-frame marker `=` (R5 `EOF`, R81). -/
def EOF : Byte := 0x3D#8
/-- Record separator `:` (R5 `SEP`, R81). -/
def SEP : Byte := 0x3A#8
/-- The printed space (R5 `SPACE`, decision D10). -/
def SPACE : Byte := 0x20#8
/-- The payload `HELLO` (R81). -/
def helloText : Bytes := [0x48#8, 0x45#8, 0x4C#8, 0x4C#8, 0x4F#8]
/-- The payload `OK` (R81). -/
def okText : Bytes := [0x4F#8, 0x4B#8]
/-- The payload `ERROR` (R81). -/
def errorText : Bytes := [0x45#8, 0x52#8, 0x52#8, 0x4F#8, 0x52#8]
/-- The largest image `WRITE` accepts, in bytes (R5 `IMAGE_MAX`, decision D17). -/
def imageMax : Nat := 65536
/-- The column before which the extra space is printed (R5 `HALF`). The number of columns, 16 (`COLS`), is the range of the
4-bit counter `pos`. -/
def half : BitVec 4 := 8#4

end Config

/-- Why a read attempt failed (R54). -/
inductive ReadCause where
  | timeout
  | readFailure
  deriving DecidableEq, Repr, Inhabited

/-- Why a frame write failed (R55; a short count without an error is `shortWrite`, decision D4). -/
inductive WriteCause where
  | writeFailure
  | shortWrite
  deriving DecidableEq, Repr, Inhabited

/-- The environment's answer to one `TxWrite` (R55). -/
inductive TxAnswer where
  | done
  | fail (cause : WriteCause)
  deriving DecidableEq, Repr, Inhabited

/-- Which agent moves next and what it does (10_state.md R21, 00_scope.md R8). A turn whose agent has no enabled step passes
without effect (notes/assumptions/2.md). -/
inductive Turn where
  /-- Hst makes a request (R90). -/
  | request (r : Request)
  /-- Hst asserts the reset input (R240). -/
  | reset
  /-- V appends bytes to the tail of `rxq` (R21, R32). -/
  | arrive (bytes : Bytes)
  /-- V answers the outstanding `RxRead` with `Byte` (R53). -/
  | rxByte
  /-- V answers the outstanding `RxRead` with `Fail` (R54). -/
  | rxFail (cause : ReadCause)
  deriving DecidableEq, Repr, Inhabited

/-- How the data token is rendered (R163, decision D9): the default identity, or the implementation's own total function. -/
inductive RenderChoice where
  | identity
  | custom
  deriving DecidableEq, Repr, Inhabited

/-- The OPEN parameters of R5. They are plain data in the state, written by no step, so that a statement about every state is a
statement about every legal value of them (notes/assumptions/1.md). -/
structure Params where
  /-- `PAYLOAD_MAX`: `none` is unbounded (decision D6). -/
  payloadMax : Option Nat
  /-- `LINE_BREAK` (decision D10). -/
  lineBreak : Bytes
  /-- `RENDER` (decision D9). -/
  render : RenderChoice
  deriving DecidableEq, Repr, Inhabited

/-- The default parameters of R5: unbounded accumulator, line feed, identity rendering. -/
def Params.default : Params := { payloadMax := none, lineBreak := [0x0A#8], render := .identity }

/-- Free value: the implementation's own rendering function when it is not the identity (R163; notes/assumptions/1.md). -/
opaque Config.customRender : Letter → Bytes → Bytes

/-- Free value: the `n`-th turn drawn after the schedule in the state has run out (R21; notes/assumptions/2.md). -/
opaque Config.freeTurn : Nat → Turn

/-- Free value: the `n`-th answer to a `TxWrite` drawn after the answers in the state have run out (R55;
notes/assumptions/3.md). -/
opaque Config.freeTxAnswer : Nat → TxAnswer

end Sys2Proof
end

