-- ==== Sys2Proof/Machine/State.lean ====
section
/-! DEFINITION. The state of the block (10_state.md R20), its results and errors (60_exceptions.md R205, R206, R221), the reasons
a step can stop, and the state after reset (70_reset_and_hazards.md R240). -/

namespace Sys2Proof.Machine

/-- The control-state register's values (R24). -/
inductive Ps where
  | unstarted
  | idle
  | commandSent
  | draining
  | failed
  | closed
  deriving DecidableEq, Repr

/-- A failure of the link: of a read, of a frame write, or the accumulator's overflow (R205). -/
inductive LinkCause where
  | readFailed (cause : ReadCause)
  | writeFailed (cause : WriteCause)
  | overflow
  deriving DecidableEq, Repr

/-- The cause of a `ConnectionError` (R205). -/
inductive ConnCause where
  | badPayload (p : Bytes)
  | link (cause : LinkCause)
  deriving DecidableEq, Repr

/-- The four error kinds with their causes (R205). -/
inductive Err where
  | connectionError (cause : ConnCause)
  | transportError (cause : LinkCause)
  | deviceError
  | invalidResponseError (p : Bytes)
  deriving DecidableEq, Repr

/-- Why a request was not accepted (R221). -/
inductive Reason where
  | notStarted
  | alreadyStarted
  | notHandshaken
  | busy
  | runFailed
  | closed
  | imageTooLong
  deriving DecidableEq, Repr

/-- A value of the result channel (R206). -/
inductive Result where
  | success
  | error (e : Err)
  | refused (reason : Reason)
  deriving DecidableEq, Repr

/-- The reasons a step stops with a fault. -/
inductive Fault where
  /-- Raised by the image port (`MemRead`, R59) for an index at or past the end of the image. "The block never reads at
  `i >= len(img)`": no state that meets the invariant raises it. Safe: the model stops where the spec gives no value. -/
  | imageIndexOutOfRange
  deriving DecidableEq, Repr

/-- The reasons a step is refused. -/
inductive Refusal where
  /-- An arm of `exec` that has no meaning yet. No arm of this model raises it. Safe. -/
  | notModelled (mnemonic : String)
  /-- Raised by a command frame (`H` … `W`) issued outside `Idle`: "`Issue` is never called in another state" (R131). No state
  that meets the invariant raises it. Safe: the model stops where the spec gives no effect. -/
  | issueOutsideIdle
  /-- Raised by a response payload for which no response of its level is awaited: every reaction of R142 and R156 is guarded by
  `ps` and `cur`. No state that meets the invariant raises it. Safe: the model stops where the spec gives no effect. -/
  | responseNotAwaited
  deriving DecidableEq, Repr

/-- The state: the registers, the traces and the link queue of R20, then the model's own fields (the parameters of R5 and what
the environment and the host will do; INVENTORY.md, State). -/
structure State where
  /-- The scanner flag: `true` is `inside-frame` (R22). -/
  inside : Bool
  /-- The payload accumulator (R23). -/
  acc : Bytes
  /-- The control-state register (R24). -/
  ps : Ps
  /-- The command in flight, `none` before the first (R25). -/
  cur : Option Letter
  /-- The handshake-done flag (R26). -/
  hs : Bool
  /-- The column counter (R27). -/
  pos : BitVec 4
  /-- The image latch (R28). -/
  img : Bytes
  /-- The write index (R29). -/
  wrIdx : BitVec 16
  /-- The error register (R30). -/
  err : Option Err
  /-- The frames written, one element per `TxWrite` answered `Done` (R31). -/
  tx : List Bytes
  /-- The bytes emitted to the presentation sink (R31). -/
  sink : Bytes
  /-- The results reported to the host (R31). -/
  results : List Result
  /-- The link queue, owned by the environment (R32). -/
  rxq : Bytes
  /-- The parameters of R5, written by no step (notes/assumptions/1.md). -/
  params : Params
  /-- The turns still to come, the next one first (R8, R21; notes/assumptions/2.md). -/
  sched : List Turn
  /-- How many turns have been drawn from the free value (notes/assumptions/2.md). -/
  turnDraws : Nat
  /-- The environment's answers to the `TxWrite`s still to come, the next one first (R55; notes/assumptions/3.md). -/
  txAnswers : List TxAnswer
  /-- How many answers have been drawn from the free value (notes/assumptions/3.md). -/
  txDraws : Nat
  deriving DecidableEq, Repr

/-- The state after reset (R20, R240, R241). `rxq` is unspecified there: empty is this model's choice (notes/assumptions/4.md);
the model's own fields hold the default parameters and no scheduled turn or answer (notes/assumptions/5.md). -/
def State.reset : State where
  inside := false
  acc := []
  ps := .unstarted
  cur := none
  hs := false
  pos := 0#4
  img := []
  wrIdx := 0#16
  err := none
  tx := []
  sink := []
  results := []
  rxq := []
  params := Params.default
  sched := []
  turnDraws := 0
  txAnswers := []
  txDraws := 0

end Sys2Proof.Machine
end

