-- ==== Sys2Proof/Machine/Flags.lean ====
section
/-! DEFINITION. The status predicates. The block has no arithmetic condition codes (10_state.md section 3, "Flags"): its
single-bit status is `inside`, `hs` and `err != None`; the rest here are the guards on `ps`, `cur` and `hs` that every rule
names, and the table of refusals of 60_exceptions.md R221. -/

namespace Sys2Proof.Machine

/-- The predicate `err != None` (R30). -/
def State.errorFlag (s : State) : Bool := s.err.isSome

/-- A command is in flight, so the frame search runs (R114, R53). -/
def State.searching (s : State) : Bool := s.ps == .commandSent || s.ps == .draining

/-- The handshake's response is awaited (R142). -/
def State.inHandshake (s : State) : Bool := s.ps == .commandSent && s.cur == some .h

/-- The command whose response is being drained, if one is (R156). -/
def State.drainCommand (s : State) : Option Letter :=
  if s.searching then
    match s.cur with
    | some .h => none
    | other => other
  else none

/-- The read failure may be answered now: `Timeout` only while `rxq` is empty, `ReadFailure` always (R54). -/
def State.mayFail (s : State) (cause : ReadCause) : Bool := cause == .readFailure || s.rxq.isEmpty

/-- The accumulator is full (R117). -/
def State.accFull (s : State) : Bool := s.params.payloadMax == some s.acc.length

/-! ## The table of refusals (R221), one definition a column; `none` is "accepted". -/

/-- Column `START`. -/
def State.startRefusal (s : State) : Option Reason :=
  match s.ps with
  | .unstarted => none
  | .idle => some .alreadyStarted
  | .commandSent | .draining => some .busy
  | .failed => some .runFailed
  | .closed => some .closed

/-- Column `CHECK_CONNECTION`. -/
def State.checkRefusal (s : State) : Option Reason :=
  match s.ps with
  | .unstarted => some .notStarted
  | .idle => none
  | .commandSent | .draining => some .busy
  | .failed => some .runFailed
  | .closed => some .closed

/-- Column `READ`, `CLEAR`, `LOCK`, `UNLOCK`. -/
def State.operationRefusal (s : State) : Option Reason :=
  match s.ps with
  | .unstarted => some .notStarted
  | .idle => if s.hs then none else some .notHandshaken
  | .commandSent | .draining => some .busy
  | .failed => some .runFailed
  | .closed => some .closed

/-- Column `WRITE image`. -/
def State.writeRefusal (s : State) (image : Bytes) : Option Reason :=
  match s.ps with
  | .unstarted => some .notStarted
  | .idle =>
    if s.hs then
      if image.length > Config.imageMax then some .imageTooLong else none
    else some .notHandshaken
  | .commandSent | .draining => some .busy
  | .failed => some .runFailed
  | .closed => some .closed

/-- Column `SHUTDOWN`. -/
def State.shutdownRefusal (s : State) : Option Reason :=
  match s.ps with
  | .unstarted | .idle | .failed => none
  | .commandSent | .draining => some .busy
  | .closed => some .closed

end Sys2Proof.Machine
end

