-- ==== Sys2Proof/WellFormed.lean ====
section
/-! DEFINITION. Which instructions are well formed: the side conditions the encoding rules put on the operands of an
instruction (30_encoding.md R82, R86 to R88). A `WRITE` image of any length is a well-formed request: the length is a guard of
the machine, which refuses a longer one (60_exceptions.md R221). -/

namespace Sys2Proof

/-- The byte is a frame marker (R81). -/
def isMarker (b : Byte) : Bool := b == Config.SOF || b == Config.EOF

/-- No byte of the sequence is a frame marker: what a delivered payload looks like (R86). -/
def noMarker (p : Bytes) : Bool := p.all (fun b => !isMarker b)

/-- The operands of an instruction satisfy the conditions of its class. -/
def Instr.wellFormed : Instr → Bool
  | .data b => !isMarker b
  | .other p => noMarker p && p != Config.helloText
  | .invalid p => noMarker p && p != Config.okText && p != Config.errorText && p.count Config.SEP != 1
  | .record a d => noMarker a && noMarker d && !a.contains Config.SEP && !d.contains Config.SEP
  | .sof | .eof | .h | .r | .c | .l | .u | .w _ _ | .hello | .ok | .error => true
  | .start | .checkConnection | .read | .write _ | .clear | .lock | .unlock | .shutdown => true

/-- The instruction is well formed. -/
abbrev Instr.WellFormed (i : Instr) : Prop := i.wellFormed = true

end Sys2Proof
end

