-- ==== Sys2Proof/Decode.lean ====
section
/-! DEFINITION. The four decoders of 30_encoding.md R80, total on any bytes and rejecting by name, the encoder, and the reading
of a word of spec/opcode_table.json (R93). -/

namespace Sys2Proof

/-- Why bytes are no instruction of a level. -/
inductive DecodeError where
  /-- Level RXBYTE: the unit is always one byte (R92). -/
  | notOneByte
  /-- Level CMD: the first byte is not `SOF` or the last is not `EOF` (R83). -/
  | missingMarker
  /-- Level CMD: a letter other than the six (R84, R89, R135). -/
  | unknownLetter
  /-- Level CMD: the argument is not 0 bytes long, or for `W` 3 bytes (R83, R89, R135). -/
  | wrongLength
  /-- Level RSP: a marker byte, which no payload can contain (R82, R86). -/
  | markerInPayload
  /-- Level REQ: requests have no bit pattern (R90, R93). -/
  | requestHasNoEncoding
  deriving DecidableEq, Repr

/-! ## Level RXBYTE -/

/-- The class of a received byte, by its value alone (R82). -/
def decodeByte (b : Byte) : Instr :=
  if b = Config.SOF then .sof else if b = Config.EOF then .eof else .data b

/-! ## Level CMD -/

/-- The code of a command letter (R84). -/
def Letter.code : Letter → Byte
  | .h => 0x48#8
  | .r => 0x52#8
  | .w => 0x57#8
  | .c => 0x43#8
  | .l => 0x4C#8
  | .u => 0x55#8

/-- A command frame: `SOF`, letter, argument, `EOF`, nothing escaped (R83, R130, R134). -/
def frame (letter : Letter) (arg : Bytes) : Bytes := [Config.SOF, letter.code] ++ arg ++ [Config.EOF]

/-- The `W` argument: address high byte, address low byte, data (R60, R85). -/
def wArg (a : Addr) (d : Byte) : Bytes := [a.extractLsb' 8 8, a.extractLsb' 0 8, d]

/-- The address of a `W` argument from its two bytes, big-endian (R60, R85). -/
def addrOf (hi lo : Byte) : Addr := hi ++ lo

/-- The letter with a given code, if there is one (R84). -/
def letterOf (b : Byte) : Option Letter :=
  [Letter.h, .r, .w, .c, .l, .u].find? (fun x => x.code == b)

/-- The command of a 3-byte frame (R83 `CMD0`): the five letters that take no argument. -/
def simpleCommand : Letter → Except DecodeError Instr
  | .h => .ok .h
  | .r => .ok .r
  | .c => .ok .c
  | .l => .ok .l
  | .u => .ok .u
  | .w => .error .wrongLength

/-- A complete command frame (R83, R84): 3 bytes without an argument, 6 bytes for `W`. -/
def decodeFrame : Bytes → Except DecodeError Instr
  | [s, x, e] =>
    if s = Config.SOF ∧ e = Config.EOF then
      match letterOf x with
      | some letter => simpleCommand letter
      | none => .error .unknownLetter
    else .error .missingMarker
  | [s, x, hi, lo, d, e] =>
    if s = Config.SOF ∧ e = Config.EOF then
      match letterOf x with
      | some .w => .ok (.w (addrOf hi lo) d)
      | some _ => .error .wrongLength
      | none => .error .unknownLetter
    else .error .missingMarker
  | _ => .error .wrongLength

/-! ## Level RSP -/

/-- The class of a payload in the handshake (R87). -/
def classifyHs (p : Bytes) : HsClass := if p = Config.helloText then .hello else .other

/-- The bytes before the first separator (R88, the address token). -/
def addrToken (p : Bytes) : Bytes := p.takeWhile (fun b => b != Config.SEP)

/-- The bytes after the first separator (R88, the data token). -/
def dataToken (p : Bytes) : Bytes := (p.dropWhile (fun b => b != Config.SEP)).drop 1

/-- The class of a payload in the drain, the tests in the order of R88. -/
def classifyDrain (p : Bytes) : DrainClass :=
  if p = Config.okText then .ok
  else if p = Config.errorText then .error
  else if p.count Config.SEP ≠ 1 then .invalid
  else .record (addrToken p) (dataToken p)

/-- The handshake instruction of a payload (R87). -/
def decodeHs (p : Bytes) : Instr :=
  match classifyHs p with
  | .hello => .hello
  | .other => .other p

/-- The drain instruction of a payload (R88). -/
def decodeDrain (p : Bytes) : Instr :=
  match classifyDrain p with
  | .ok => .ok
  | .error => .error
  | .invalid => .invalid p
  | .record a d => .record a d

/-! ## Level REQ -/

/-- The instruction of a host request (R90). -/
def decodeRequest : Request → Instr
  | .start => .start
  | .checkConnection => .checkConnection
  | .read => .read
  | .write image => .write image
  | .clear => .clear
  | .lock => .lock
  | .unlock => .unlock
  | .shutdown => .shutdown

/-! ## All levels -/

/-- The decoder of R80: the instruction the bytes are at a level, or the name of what is wrong with them. -/
def decode (level : Level) (bytes : Bytes) : Except DecodeError Instr :=
  match level with
  | .rxByte =>
    match bytes with
    | [b] => .ok (decodeByte b)
    | _ => .error .notOneByte
  | .cmd => decodeFrame bytes
  | .rspHandshake => if noMarker bytes then .ok (decodeHs bytes) else .error .markerInPayload
  | .rspDrain => if noMarker bytes then .ok (decodeDrain bytes) else .error .markerInPayload
  | .req => .error .requestHasNoEncoding

/-- The bytes of an instruction: the received byte (R82), the command frame in transmission order (R83), the payload without
its markers (R86, R93); none for a request (R90). -/
def encode : Instr → Option Bytes
  | .sof => some [Config.SOF]
  | .eof => some [Config.EOF]
  | .data b => some [b]
  | .h => some (frame .h [])
  | .r => some (frame .r [])
  | .c => some (frame .c [])
  | .l => some (frame .l [])
  | .u => some (frame .u [])
  | .w a d => some (frame .w (wArg a d))
  | .hello => some Config.helloText
  | .other p => some p
  | .ok => some Config.okText
  | .error => some Config.errorText
  | .invalid p => some p
  | .record a d => some (a ++ [Config.SEP] ++ d)
  | .start | .checkConnection | .read | .write _ | .clear | .lock | .unlock | .shutdown => none

/-! ## Words of spec/opcode_table.json -/

/-- The low `n` bytes of a number, the most significant first: R93 reads a frame or a payload as one number whose most
significant byte is the first byte. -/
def bytesOfNumber : Nat → Nat → Bytes
  | 0, _ => []
  | n + 1, w => BitVec.ofNat 8 (w >>> (8 * n)) :: bytesOfNumber n w

/-- The level whose unit the bytes of a table word are: one byte is RXBYTE, bytes that begin with `SOF` are a frame, `HELLO` is
the handshake's payload, other bytes a payload in the drain (notes/assumptions/6.md). -/
def tableLevel (bytes : Bytes) : Level :=
  if bytes.length = 1 then .rxByte
  else if bytes.head? = some Config.SOF then .cmd
  else if bytes = Config.helloText then .rspHandshake
  else .rspDrain

/-- The instruction of a word of `nbits` bits, numbered as spec/opcode_table.json numbers them (R93). -/
def decodeTableWord (nbits w : Nat) : Option Instr :=
  if nbits % 8 = 0 then
    match decode (tableLevel (bytesOfNumber (nbits / 8) w)) (bytesOfNumber (nbits / 8) w) with
    | .ok i => some i
    | .error _ => none
  else none

end Sys2Proof
end

