-- ==== Sys2Proof/Machine/Operands.lean ====
section
/-! DEFINITION. The operands of the block's rules: the image port (20_memory.md R59), the write index (45_write.md R194, R198),
the column counter and the printed text of a record (43_response_drain.md R162, R163, R165). -/

namespace Sys2Proof.Machine

/-- `MemRead(i, 1)`: the image byte at an index, if the image has one there (R59). A pure read. -/
def State.memRead (s : State) (i : BitVec 16) : Option Byte := s.img[i.toNat]?

/-- The continuation test of the write loop, `wr_idx + 1 < len(img)` (R181, R194). -/
def State.moreImage (s : State) : Bool := decide (s.wrIdx.toNat + 1 < s.img.length)

/-- The index of the next image byte (R194, R198). -/
def State.nextIdx (s : State) : BitVec 16 := s.wrIdx + 1#16

/-- `(pos + 1) mod 16` (R165): the 4-bit counter wraps from 15 to 0. -/
def nextPos (pos : BitVec 4) : BitVec 4 := pos + 1#4

/-- `RENDER(op, token)` (R163). -/
def renderToken (params : Params) (op : Letter) (token : Bytes) : Bytes :=
  match params.render with
  | .identity => token
  | .custom => Config.customRender op token

/-- The text of one record at a column (R162): the line break and the address label at column 0, the extra space at column 8,
then a space and the rendered data token. -/
def recordText (params : Params) (op : Letter) (pos : BitVec 4) (a d : Bytes) : Bytes :=
  (if pos = 0#4 then params.lineBreak ++ a ++ [Config.SEP, Config.SPACE] else [])
    ++ (if pos = Config.half then [Config.SPACE] else [])
    ++ [Config.SPACE] ++ renderToken params op d

end Sys2Proof.Machine
end

