-- ==== Sys2Proof/Machine/Ops.lean ====
section
/-! DEFINITION. The primitives of 00_scope.md R7 over the channels, the error entry and the refusal of 60_exceptions.md, the
issue of a command (41_frame_tx.md), the reset input (70_reset_and_hazards.md R240), and the numbers of the results (R206). -/

namespace Sys2Proof.Machine

open Host (Outcome)

/-! ## Channels -/

/-- `Result(r)` (R58). -/
def State.report (s : State) (r : Result) : State := { s with results := s.results ++ [r] }

/-- `SinkEmit(t)` (R57). -/
def State.sinkEmit (s : State) (t : Bytes) : State := { s with sink := s.sink ++ t }

/-- `RxFlush()` (R7, R140). -/
def State.rxFlush (s : State) : State := { s with rxq := [] }

/-- V appends bytes to the tail of the link queue (R21, R32). -/
def State.rxAppend (s : State) (bytes : Bytes) : State := { s with rxq := s.rxq ++ bytes }

/-- `RxRead()` answered `Byte` (R53): the head of the link queue, which is removed; nothing while the queue is empty. -/
def State.rxRead (s : State) : Option (Byte × State) :=
  match s.rxq with
  | [] => none
  | b :: rest => some (b, { s with rxq := rest })

/-- The environment's answer to the next `TxWrite`: the head of the list, or a free value when the list has run out
(notes/assumptions/3.md). -/
def State.nextTxAnswer (s : State) : TxAnswer := s.txAnswers.headD (Config.freeTxAnswer s.txDraws)

/-- The state once that answer is used up. -/
def State.useTxAnswer (s : State) : State :=
  { s with
    txAnswers := s.txAnswers.tail
    txDraws := if s.txAnswers.isEmpty then s.txDraws + 1 else s.txDraws }

/-- `TxWrite(f)` (R55): the answer, and the state in which `tx` has gained the frame exactly when the answer is `Done`. -/
def State.txWrite (s : State) (f : Bytes) : TxAnswer × State :=
  match s.nextTxAnswer with
  | .done => (.done, { s.useTxAnswer with tx := s.tx ++ [f] })
  | .fail cause => (.fail cause, s.useTxAnswer)

/-! ## Taking an error (the block's exceptions) and refusing a request -/

/-- The error entry `raise E(info)` (R215): `err` and `ps` are written, the result reported, nothing else changes. There is no
return from it (R217). -/
def State.raise (s : State) (e : Err) : State := { s with err := some e, ps := .failed, results := s.results ++ [.error e] }

/-- The error a failure of the link raises: `ConnectionError` while the command is `H`, else `TransportError` (R133, R145, R164,
R117; 90_conflicts.md C2). -/
def linkError (cur : Option Letter) (cause : LinkCause) : Err :=
  if cur = some .h then .connectionError (.link cause) else .transportError cause

/-- `refuse(reason)` (R220). -/
def State.refuse (s : State) (reason : Reason) : State := s.report (.refused reason)

/-! ## Command issue -/

/-- What a written command frame leaves (R131). -/
def State.enterCommandSent (s : State) (letter : Letter) : State :=
  { s with cur := some letter, pos := 0#4, inside := false, acc := [], ps := .commandSent }

/-- `Issue(c, arg)` (R130, R131, R133): write the frame, then enter `CommandSent`, or raise on a failed write. Guard
`ps == Idle`. -/
def issue (letter : Letter) (arg : Bytes) (s : State) : Outcome State Fault Refusal :=
  if s.ps = .idle then
    match s.txWrite (frame letter arg) with
    | (.done, s') => .next (s'.enterCommandSent letter)
    | (.fail cause, s') =>
      .next (State.raise { s' with cur := some letter } (linkError (some letter) (.writeFailed cause)))
  else .refused .issueOutsideIdle

/-! ## Read failure -/

/-- The reaction to `ReadFailed(cause)` (R115, R145, R164): the error entry; the scanner keeps what it has. -/
def State.readFailed (s : State) (cause : ReadCause) : State := s.raise (linkError s.cur (.readFailed cause))

/-! ## Reset -/

/-- The reset input (R240): every register and trace takes its reset value; `rxq` belongs to the link and is not changed, nor
are the model's own fields. -/
def State.resetInput (s : State) : State :=
  { s with
    inside := false
    acc := []
    ps := .unstarted
    cur := none
    hs := false
    pos := 0#4
    img := []
    wrIdx := 0#16
    err := none
    tx := []
    sink := []
    results := [] }

/-! ## Numbers of the results (decision D21) -/

/-- The code of an error kind (R205). -/
def Err.code : Err → Nat
  | .connectionError _ => 1
  | .transportError _ => 2
  | .deviceError => 3
  | .invalidResponseError _ => 4

/-- The code of a refusal reason (R221). -/
def Reason.code : Reason → Nat
  | .notStarted => 1
  | .alreadyStarted => 2
  | .notHandshaken => 3
  | .busy => 4
  | .runFailed => 5
  | .closed => 6
  | .imageTooLong => 7

/-- The code of a result (R206). -/
def Result.code : Result → Nat
  | .success => 0
  | .error e => e.code
  | .refused reason => 16 + reason.code

end Sys2Proof.Machine
end

