-- ==== Sys2Proof/Machine/Command.lean ====
section
/-! DEFINITION. Level CMD: the meanings of the six command frames (41_frame_tx.md R130 to R136). Each is `Issue` with its own
letter; a host request reaches it through its own meaning (Request.lean), the next `W` of a `WRITE` through `OK` (Response.lean). -/

namespace Sys2Proof.Machine

open Host (Outcome)

/-- `H` (R141): `Issue(H, ε)`. -/
def execH (s : State) : Outcome State Fault Refusal := issue .h [] s

/-- `R` (R176): `Issue(R, ε)`. -/
def execR (s : State) : Outcome State Fault Refusal := issue .r [] s

/-- `C` (R177): `Issue(C, ε)`. -/
def execC (s : State) : Outcome State Fault Refusal := issue .c [] s

/-- `L` (R178): `Issue(L, ε)`. -/
def execL (s : State) : Outcome State Fault Refusal := issue .l [] s

/-- `U` (R179): `Issue(U, ε)`. -/
def execU (s : State) : Outcome State Fault Refusal := issue .u [] s

/-- `W` (R191): `Issue(W, [a[15:8], a[7:0], d])`. -/
def execW (a : Addr) (d : Byte) (s : State) : Outcome State Fault Refusal := issue .w (wArg a d) s

/-- `IssueW(i)` (R191): the `W` command for image byte `i`, its address the index itself (R198). -/
def issueW (i : BitVec 16) (s : State) : Outcome State Fault Refusal :=
  match s.memRead i with
  | some d => execW i d s
  | none => .fault .imageIndexOutOfRange

end Sys2Proof.Machine
end

