-- ==== Sys2Proof/Machine/Response.lean ====
section
/-! DEFINITION. Level RSP: the correlator's reaction to a delivered payload, in the handshake (42_startup_handshake.md R142 to
R144) and in the response drain (43_response_drain.md R156 to R162, 45_write.md R194). -/

namespace Sys2Proof.Machine

open Host (Outcome)

/-- `HELLO` in the handshake (R143). -/
def execHello (s : State) : Outcome State Fault Refusal :=
  if s.inHandshake then .next (State.report { s with hs := true, ps := .idle } .success)
  else .refused .responseNotAwaited

/-- Any other payload in the handshake (R144). -/
def execOther (p : Bytes) (s : State) : Outcome State Fault Refusal :=
  if s.inHandshake then .next (s.raise (.connectionError (.badPayload p)))
  else .refused .responseNotAwaited

/-- `OK` in the drain: the end of the operation (R158), or inside a `WRITE` with bytes left the next `W` (R194). -/
def execOk (s : State) : Outcome State Fault Refusal :=
  match s.drainCommand with
  | some op =>
    if op = .w ∧ s.moreImage then
      issueW s.nextIdx { s with ps := .idle, wrIdx := s.nextIdx }
    else .next (State.report { s with ps := .idle } .success)
  | none => .refused .responseNotAwaited

/-- `ERROR` in the drain (R159). -/
def execError (s : State) : Outcome State Fault Refusal :=
  match s.drainCommand with
  | some _ => .next (s.raise .deviceError)
  | none => .refused .responseNotAwaited

/-- A payload that is neither a sentinel nor a record (R160): nothing is printed. -/
def execInvalid (p : Bytes) (s : State) : Outcome State Fault Refusal :=
  match s.drainCommand with
  | some _ => .next (s.raise (.invalidResponseError p))
  | none => .refused .responseNotAwaited

/-- A data record (R162): its text is emitted, the column counter advances, the drain goes on. -/
def execRecord (a d : Bytes) (s : State) : Outcome State Fault Refusal :=
  match s.drainCommand with
  | some op =>
    .next { s.sinkEmit (recordText s.params op s.pos a d) with pos := nextPos s.pos, ps := .draining }
  | none => .refused .responseNotAwaited

/-- `FrameComplete(p)` is handled by exactly one rule (R142, R156): by the handshake's while `cur` is `H`, else by the drain's. -/
def deliver (p : Bytes) (s : State) : Outcome State Fault Refusal :=
  if s.cur = some .h then
    match classifyHs p with
    | .hello => execHello s
    | .other => execOther p s
  else
    match classifyDrain p with
    | .ok => execOk s
    | .error => execError s
    | .invalid => execInvalid p s
    | .record a d => execRecord a d s

end Sys2Proof.Machine
end

