-- ==== Sys2Proof/Machine/Receive.lean ====
section
/-! DEFINITION. Level RXBYTE: the receive scanner's reaction to one received byte (40_frame_rx.md R111 to R113, R117), and the
scanner as a pure function (R118). -/

namespace Sys2Proof.Machine

open Host (Outcome)

/-- `SOF` (R111): a frame begins, whatever was accumulated is dropped. -/
def execSof (s : State) : Outcome State Fault Refusal := .next { s with inside := true, acc := [] }

/-- `EOF` (R112): inside a frame the payload is delivered in the same step; outside the byte is discarded. -/
def execEof (s : State) : Outcome State Fault Refusal :=
  if s.inside then deliver s.acc { s with inside := false, acc := [] } else .next s

/-- `DATA` (R113, R117): inside a frame the byte is accumulated, or overflows a full accumulator; outside it is discarded. -/
def execData (b : Byte) (s : State) : Outcome State Fault Refusal :=
  if s.inside then
    if s.accFull then .next (s.raise (linkError s.cur .overflow))
    else .next { s with acc := s.acc ++ [b] }
  else .next s

/-! ## The scanner as a pure function (R118) -/

/-- The scanner's next state and the payload it delivers, for one byte. -/
def scan (inside : Bool) (acc : Bytes) (b : Byte) : (Bool × Bytes) × Option Bytes :=
  if b = Config.SOF then ((true, []), none)
  else if b = Config.EOF then
    if inside then ((false, []), some acc) else ((false, []), none)
  else if inside then ((true, acc ++ [b]), none)
  else ((false, []), none)

/-- `readFrame` on a byte sequence: `scan` folded until it delivers; the payload and the unconsumed rest (R118). -/
def readFrame (inside : Bool) (acc : Bytes) : Bytes → Option (Bytes × Bytes)
  | [] => none
  | b :: rest =>
    match scan inside acc b with
    | (_, some p) => some (p, rest)
    | ((inside', acc'), none) => readFrame inside' acc' rest

end Sys2Proof.Machine
end

