-- ==== Sys2Proof/Machine/Request.lean ====
section
/-! DEFINITION. Level REQ: the meanings of the eight host requests (30_encoding.md R90). A request whose guard fails is refused
by the table of 60_exceptions.md R221 with no other effect (R220). -/

namespace Sys2Proof.Machine

open Host (Outcome)

/-- `START` (R140): the startup drain. It never raises an error. -/
def execStart (s : State) : Outcome State Fault Refusal :=
  match s.startRefusal with
  | some reason => .next (s.refuse reason)
  | none => .next (State.report { s.rxFlush with inside := false, acc := [], ps := .idle } .success)

/-- `CHECK_CONNECTION` (R141): issues `H`. -/
def execCheckConnection (s : State) : Outcome State Fault Refusal :=
  match s.checkRefusal with
  | some reason => .next (s.refuse reason)
  | none => execH s

/-- `READ` (R175, R176): issues `R`. -/
def execRead (s : State) : Outcome State Fault Refusal :=
  match s.operationRefusal with
  | some reason => .next (s.refuse reason)
  | none => execR s

/-- `WRITE image` (R193): latches the image and issues the `W` of its first byte; an empty image succeeds at once. -/
def execWrite (image : Bytes) (s : State) : Outcome State Fault Refusal :=
  match s.writeRefusal image with
  | some reason => .next (s.refuse reason)
  | none =>
    if image.isEmpty then .next (State.report { s with img := image, wrIdx := 0#16 } .success)
    else issueW 0#16 { s with img := image, wrIdx := 0#16 }

/-- `CLEAR` (R175, R177): issues `C`. -/
def execClear (s : State) : Outcome State Fault Refusal :=
  match s.operationRefusal with
  | some reason => .next (s.refuse reason)
  | none => execC s

/-- `LOCK` (R175, R178): issues `L`. -/
def execLock (s : State) : Outcome State Fault Refusal :=
  match s.operationRefusal with
  | some reason => .next (s.refuse reason)
  | none => execL s

/-- `UNLOCK` (R175, R179): issues `U`. -/
def execUnlock (s : State) : Outcome State Fault Refusal :=
  match s.operationRefusal with
  | some reason => .next (s.refuse reason)
  | none => execU s

/-- `SHUTDOWN` (R230): releases the transport; `err` keeps its value. -/
def execShutdown (s : State) : Outcome State Fault Refusal :=
  match s.shutdownRefusal with
  | some reason => .next (s.refuse reason)
  | none => .next (State.report { s with ps := .closed } .success)

end Sys2Proof.Machine
end

