-- ==== Sys2Proof/Machine/Dispatch.lean ====
section
/-! DEFINITION. One arm per constructor of `Instr`, each a direct call of its meaning. -/

namespace Sys2Proof.Machine

def exec (i : Instr) (s : State) : Host.Outcome State Fault Refusal :=
  match i with
  -- received bytes
  | .sof => Sys2Proof.Machine.execSof s
  | .eof => Sys2Proof.Machine.execEof s
  | .data b => Sys2Proof.Machine.execData b s
  -- command frames
  | .h => Sys2Proof.Machine.execH s
  | .r => Sys2Proof.Machine.execR s
  | .c => Sys2Proof.Machine.execC s
  | .l => Sys2Proof.Machine.execL s
  | .u => Sys2Proof.Machine.execU s
  | .w a d => Sys2Proof.Machine.execW a d s
  -- response payloads
  | .hello => Sys2Proof.Machine.execHello s
  | .other p => Sys2Proof.Machine.execOther p s
  | .ok => Sys2Proof.Machine.execOk s
  | .error => Sys2Proof.Machine.execError s
  | .invalid p => Sys2Proof.Machine.execInvalid p s
  | .record a d => Sys2Proof.Machine.execRecord a d s
  -- host requests
  | .start => Sys2Proof.Machine.execStart s
  | .checkConnection => Sys2Proof.Machine.execCheckConnection s
  | .read => Sys2Proof.Machine.execRead s
  | .write image => Sys2Proof.Machine.execWrite image s
  | .clear => Sys2Proof.Machine.execClear s
  | .lock => Sys2Proof.Machine.execLock s
  | .unlock => Sys2Proof.Machine.execUnlock s
  | .shutdown => Sys2Proof.Machine.execShutdown s

end Sys2Proof.Machine
end

