-- ==== Sys2Proof/Machine/Fetch.lean ====
section
/-! DEFINITION. Whose turn it is and what the block is given in it (00_scope.md R8, 10_state.md R21): a host request or a received
byte is an instruction the step runs; the reset input, the link's own moves and a read failure are the environment's. And how a
word of spec/opcode_table.json is put where the next step takes it. -/

namespace Sys2Proof.Machine

/-- The next turn: the head of the schedule, or a free value when the schedule has run out (notes/assumptions/2.md). -/
def State.nextTurn (s : State) : Turn := s.sched.headD (Config.freeTurn s.turnDraws)

/-- The state once that turn is taken off the schedule. -/
def State.useTurn (s : State) : State :=
  { s with
    sched := s.sched.tail
    turnDraws := if s.sched.isEmpty then s.turnDraws + 1 else s.turnDraws }

/-- The instruction the next turn gives the block, and the state it runs in: an accepted or refused request (R8 a), or the byte
one `RxRead` consumes (R8 b, R53), which the block issues only while a command is in flight. None in a turn of the environment,
and none while the read blocks on an empty queue (R54). -/
def State.fetch (s : State) : Option (Instr × State) :=
  match s.nextTurn with
  | .request r => some (decodeRequest r, s.useTurn)
  | .rxByte =>
    if s.searching then
      match s.useTurn.rxRead with
      | some (b, s') => some (decodeByte b, s')
      | none => none
    else none
  | .reset | .arrive _ | .rxFail _ => none

/-- What a turn that gives the block no instruction does: the reset input (R240), bytes appended to the link queue (R21), a read
failure (R54, R115). A turn whose agent has no enabled step passes (notes/assumptions/2.md). -/
def State.environment (s : State) : State :=
  match s.nextTurn with
  | .reset => s.useTurn.resetInput
  | .arrive bytes => s.useTurn.rxAppend bytes
  | .rxFail cause => if s.searching && s.mayFail cause then s.useTurn.readFailed cause else s.useTurn
  | .rxByte | .request _ => s.useTurn

/-! ## Placing an instruction for the next step (notes/assumptions/5.md) -/

/-- A byte at the head of the link queue, a command in flight, and the turn that reads it. -/
def State.placeByte (s : State) (b : Byte) : State :=
  { s with
    ps := if s.searching then s.ps else .commandSent
    rxq := b :: s.rxq
    sched := .rxByte :: s.sched }

/-- A request, and the turn that makes it. -/
def State.placeRequest (s : State) (r : Request) : State := { s with sched := .request r :: s.sched }

/-- A command that a request issues: the block in `Idle` after its handshake, the request, and the answer `Done`. -/
def State.placeCommand (s : State) (r : Request) : State :=
  State.placeRequest { s with ps := .idle, hs := true, txAnswers := .done :: s.txAnswers } r

/-- A payload of which only the end marker is still to be read, answering the command `cur`. -/
def State.placePayload (s : State) (cur : Letter) (p : Bytes) : State :=
  { s with
    ps := .commandSent
    cur := some cur
    inside := true
    acc := p
    rxq := Config.EOF :: s.rxq
    sched := .rxByte :: s.sched }

/-- The `W` command for one address: the first byte of a `WRITE` for address 0, else the next byte after an `OK`. -/
def State.placeW (s : State) (a : Addr) (d : Byte) : State :=
  if a = 0#16 then s.placeCommand (.write [d])
  else
    State.placePayload
      { s with
        hs := true
        img := List.replicate a.toNat 0#8 ++ [d]
        wrIdx := a - 1#16
        txAnswers := .done :: s.txAnswers } .w Config.okText

/-- The state in which the very next step runs the instruction. -/
def State.place (s : State) : Instr → State
  | .sof => s.placeByte Config.SOF
  | .eof => s.placeByte Config.EOF
  | .data b => s.placeByte b
  | .h => s.placeCommand .checkConnection
  | .r => s.placeCommand .read
  | .c => s.placeCommand .clear
  | .l => s.placeCommand .lock
  | .u => s.placeCommand .unlock
  | .w a d => s.placeW a d
  | .hello => s.placePayload .h Config.helloText
  | .other p => s.placePayload .h p
  | .ok => s.placePayload .r Config.okText
  | .error => s.placePayload .r Config.errorText
  | .invalid p => s.placePayload .r p
  | .record a d => s.placePayload .r (a ++ [Config.SEP] ++ d)
  | .start => s.placeRequest .start
  | .checkConnection => s.placeRequest .checkConnection
  | .read => s.placeRequest .read
  | .write image => s.placeRequest (.write image)
  | .clear => s.placeRequest .clear
  | .lock => s.placeRequest .lock
  | .unlock => s.placeRequest .unlock
  | .shutdown => s.placeRequest .shutdown

/-- The table word's instruction placed; a word that is no instruction has no place in the machine and leaves the state as it
is. -/
def State.placeWord (s : State) (nbits w : Nat) : State :=
  match decodeTableWord nbits w with
  | some i => s.place i
  | none => s

end Sys2Proof.Machine
end

