-- ==== Sys2Proof/Machine/Step.lean ====
section
/-! DEFINITION. One step (00_scope.md R8): the instruction the next turn gives the block is run, or the environment moves. -/

namespace Sys2Proof.Machine

/-- The state with the instruction of a table word where the next step takes its instruction. -/
def State.withFetchWord (s : State) (nbits w : Nat) : State := s.placeWord nbits w

/-- One step of the machine. -/
def step (s : State) : Host.Outcome State Fault Refusal :=
  match s.fetch with
  | some (i, s') => exec i s'
  | none => .next s.environment

end Sys2Proof.Machine
end

