-- ==== Sys2Proof/Safety.lean ====
section
/-! DEFINITION. What a safe state is: the invariants the spec derives from its rules (10_state.md section 7, I-1 to I-5, and the
parts of I-6 and I-7 a state can show) with what R20, R84, R119, R147 and R218 say of the registers and the traces. -/

namespace Sys2Proof.Machine

/-- `k` steps, stopping at the first fault or refusal (Host.Core.run of this machine, at its own types). -/
def run : Nat → State → Host.Outcome State Fault Refusal
  | 0, s => .next s
  | k + 1, s =>
    match step s with
    | .next s' => run k s'
    | .fault r => .fault r
    | .refused r => .refused r

/-- The error a result reports, if it reports one (R206). -/
def Result.reportedError : Result → Option Err
  | .error e => some e
  | .success | .refused _ => none

/-- The byte sequence is one of the command frames of R83 and R84: one of the six letters, its argument 3 bytes for `W` and empty
for the others. -/
def IsCommandFrame (f : Bytes) : Prop :=
  ∃ letter arg, f = frame letter arg ∧ arg.length = (if letter = .w then 3 else 0)

/-- The frame of the command in flight (I-7, R191): the letter in `cur`, for `W` with the address and data of image byte
`wr_idx`. -/
def State.IsOutstanding (s : State) (f : Bytes) : Prop :=
  ∃ letter arg, s.cur = some letter ∧ f = frame letter arg ∧
    (letter ≠ .w → arg = []) ∧ (letter = .w → ∃ d, s.memRead s.wrIdx = some d ∧ arg = wArg s.wrIdx d)

/-- The invariant of the block. -/
structure State.Inv (s : State) : Prop where
  /-- I-1: outside a frame the accumulator is empty. -/
  acc_outside : s.inside = false → s.acc = []
  /-- I-2: between commands the scanner is outside a frame. -/
  outside_between : s.ps = .unstarted ∨ s.ps = .idle → s.inside = false
  /-- I-3: a failed run has its error. -/
  failed_err : s.ps = .failed → s.err ≠ none
  /-- I-3: a run that goes on has none. -/
  running_no_err : s.ps ≠ .failed → s.ps ≠ .closed → s.err = none
  /-- I-4: the handshake never drains. -/
  draining_cur : s.ps = .draining → s.cur ≠ some .h
  /-- I-5 (and I-4, I-7): the last frame written is that of the command in flight. -/
  outstanding : s.searching = true → ∃ f, s.tx.getLast? = some f ∧ s.IsOutstanding f
  /-- R20: the image fits the 16-bit address. -/
  img_length : s.img.length ≤ Config.imageMax
  /-- R29: the write index names a byte of the image, or the image is empty and it is zero. -/
  wr_idx : s.wrIdx.toNat < s.img.length ∨ (s.img = [] ∧ s.wrIdx = 0#16)
  /-- R119: no marker is ever accumulated, so none is ever delivered. -/
  acc_no_marker : noMarker s.acc = true
  /-- R20, R23: the accumulator keeps its bound. -/
  acc_bound : ∀ n, s.params.payloadMax = some n → s.acc.length ≤ n
  /-- R240: before `START` the registers and traces have their reset values. -/
  unstarted : s.ps = .unstarted → s.cur = none ∧ s.tx = []
  /-- R84, R135: every frame written is one of the six commands. -/
  tx_frames : ∀ f ∈ s.tx, IsCommandFrame f
  /-- R147: the first frame of a run is the handshake's. -/
  tx_first : ∀ f, s.tx.head? = some f → f = frame .h []
  /-- R26, I-6: the handshake flag is set only in a run that has sent `H`. -/
  hs_sent : s.hs = true → s.tx ≠ []
  /-- R147, R221: without the handshake nothing but `H` is sent or awaited, nothing is printed, no image is latched. -/
  no_hs : s.hs = false →
    (∀ f ∈ s.tx, f = frame .h []) ∧ (s.cur = none ∨ s.cur = some .h) ∧ s.sink = [] ∧ s.img = [] ∧ s.pos = 0#4
  /-- R34, R218: the errors among the results are the one in `err`, if there is one. -/
  one_error : s.results.filterMap Result.reportedError = s.err.toList

end Sys2Proof.Machine
end

