-- ==== Sys2Proof/Certificates/Slice0/Obligations.lean ====
section
/-! DEFINITION. The statements for the provers. A next state is written out as an update of the state before, so that each
statement about an instruction says its result, its completion and its frame (every field not named is unchanged) at once. -/

namespace Sys2Proof.Statements

open Sys2Proof.Machine

/-- The five commands without an argument, with their letters and codes (R84). -/
def simpleCommands : List (Instr × Letter × Byte) :=
  [(.h, .h, 0x48#8), (.r, .r, 0x52#8), (.c, .c, 0x43#8), (.l, .l, 0x4C#8), (.u, .u, 0x55#8)]

/-- The four operations of 44_simple_and_read.md: request, letter, code (R176 to R179). -/
def operations : List (Request × Letter × Byte) :=
  [(.read, .r, 0x52#8), (.clear, .c, 0x43#8), (.lock, .l, 0x4C#8), (.unlock, .u, 0x55#8)]

/-- The `W` frame of byte `d` at index `n`, by arithmetic on the index (R85: high byte, low byte, data). -/
def wFrame (n : Nat) (d : Byte) : Bytes :=
  [0x3C#8, 0x57#8, BitVec.ofNat 8 (n / 256), BitVec.ofNat 8 (n % 256), d, 0x3D#8]

/-- A response frame on the link (R86). -/
def rspFrame (p : Bytes) : Bytes := [0x3C#8] ++ p ++ [0x3D#8]

/-- The payload of a record (R88). -/
def recordPayload (r : Bytes × Bytes) : Bytes := r.1 ++ [0x3A#8] ++ r.2

/-- A record whose tokens hold none of the three characters `<`, `=`, `:` (R251). -/
def IsRecord (r : Bytes × Bytes) : Prop :=
  noMarker r.1 = true ∧ noMarker r.2 = true ∧ 0x3A#8 ∉ r.1 ∧ 0x3A#8 ∉ r.2

/-- The data token as printed (R163). -/
def rendered (params : Params) (op : Letter) (d : Bytes) : Bytes :=
  match params.render with
  | .identity => d
  | .custom => Config.customRender op d

/-- The text of one record after `k` records of its command (R162, R165). -/
def textAt (params : Params) (op : Letter) (k : Nat) (a d : Bytes) : Bytes :=
  (if k % 16 = 0 then params.lineBreak ++ a ++ [0x3A#8, 0x20#8] else [])
    ++ (if k % 16 = 8 then [0x20#8] else []) ++ [0x20#8] ++ rendered params op d

/-- The text of the records of a response, the first of them after `k` others (R166). -/
def responseText (params : Params) (op : Letter) : Nat → List (Bytes × Bytes) → Bytes
  | _, [] => []
  | k, (a, d) :: rest => textAt params op k a d ++ responseText params op (k + 1) rest

/-- The table of R221: the reason a request is refused, `none` where it is accepted. -/
def refusalTable (hs : Bool) : Ps → Request → Option Reason
  | .unstarted, .start => none
  | .unstarted, .shutdown => none
  | .unstarted, _ => some .notStarted
  | .idle, .start => some .alreadyStarted
  | .idle, .checkConnection => none
  | .idle, .shutdown => none
  | .idle, .write image =>
    if hs = false then some .notHandshaken else if image.length > 65536 then some .imageTooLong else none
  | .idle, _ => if hs = false then some .notHandshaken else none
  | .commandSent, _ => some .busy
  | .draining, _ => some .busy
  | .failed, .shutdown => none
  | .failed, _ => some .runFailed
  | .closed, _ => some .closed

/-- The instruction of a delivered payload: the handshake's while `cur` is `H`, else the drain's (R142, R156). -/
def payloadInstr (cur : Option Letter) (p : Bytes) : Instr :=
  if cur = some .h then decodeHs p else decodeDrain p

/-- The error a failure of the link raises for the command `letter` (R205). -/
def linkErr (letter : Letter) (cause : LinkCause) : Err :=
  if letter = .h then .connectionError (.link cause) else .transportError cause

/-- The frame that completes in this step: a command is in flight, the byte read is the end marker, the payload is `p`. -/
def FrameCompletes (s : State) (p : Bytes) : Prop :=
  s.nextTurn = .rxByte ∧ s.searching = true ∧ s.rxq.head? = some 0x3D#8 ∧ s.inside = true ∧ s.acc = p

/-- The command in flight is one whose response is drained (R156). -/
def DrainsItsResponse (s : State) : Prop := s.searching = true ∧ s.cur ≠ none ∧ s.cur ≠ some .h

/-- A `WRITE` with an image byte after the one in flight (R194). -/
def HasMoreToWrite (s : State) : Prop := s.cur = some .w ∧ s.wrIdx.toNat + 1 < s.img.length

/-- In `Idle` the host makes a request that the table of R221 accepts and that writes a command frame. -/
def IssuesCommand (s : State) : Prop :=
  s.ps = .idle ∧ ∃ r, s.nextTurn = .request r ∧ refusalTable s.hs .idle r = none ∧ r ≠ .shutdown ∧ r ≠ .write []

/-- The events on which a command in flight fails the run: the rows of R24 that lead from `CommandSent` and `Draining` to
`Failed`, the failed write of the next `W` (R194, R133), and the overflow (R117). -/
def ResponseFails (s : State) : Prop :=
  (∃ cause, s.nextTurn = .rxFail cause ∧ s.searching = true ∧ (cause = .timeout → s.rxq = [])) ∨
  (s.ps = .commandSent ∧ s.cur = some .h ∧ ∃ p, FrameCompletes s p ∧ p ≠ [0x48#8, 0x45#8, 0x4C#8, 0x4C#8, 0x4F#8]) ∨
  (DrainsItsResponse s ∧ FrameCompletes s [0x45#8, 0x52#8, 0x52#8, 0x4F#8, 0x52#8]) ∨
  (DrainsItsResponse s ∧ ∃ p, FrameCompletes s p ∧ p ≠ [0x4F#8, 0x4B#8] ∧
    p ≠ [0x45#8, 0x52#8, 0x52#8, 0x4F#8, 0x52#8] ∧ p.count 0x3A#8 ≠ 1) ∨
  (HasMoreToWrite s ∧ FrameCompletes s [0x4F#8, 0x4B#8] ∧ ∃ cause, s.nextTxAnswer = .fail cause) ∨
  (s.nextTurn = .rxByte ∧ s.searching = true ∧ s.inside = true ∧ s.params.payloadMax = some s.acc.length ∧
    ∃ b, s.rxq.head? = some b ∧ b ≠ 0x3C#8 ∧ b ≠ 0x3D#8)

end Sys2Proof.Statements

open Sys2Proof Sys2Proof.Machine Sys2Proof.Statements

/-! ## Encodings -/

/-- Words written out from the spec's encodings decode to the instructions they stand for (R82, R84, R85, R87, R88). -/
def Obligations.SampleWordsDecode : Prop :=
  decodeTableWord 8 0x3C = some .sof ∧ decodeTableWord 8 0x3D = some .eof ∧ decodeTableWord 8 0x41 = some (.data 0x41#8) ∧
  decodeTableWord 24 0x3C483D = some .h ∧ decodeTableWord 24 0x3C523D = some .r ∧ decodeTableWord 24 0x3C433D = some .c ∧
  decodeTableWord 24 0x3C4C3D = some .l ∧ decodeTableWord 24 0x3C553D = some .u ∧
  decodeTableWord 48 0x3C571234563D = some (.w 0x1234#16 0x56#8) ∧
  decodeTableWord 40 0x48454C4C4F = some .hello ∧ decodeTableWord 16 0x4F4B = some .ok ∧
  decodeTableWord 40 0x4552524F52 = some .error ∧ decodeTableWord 16 0x3346 = some (.invalid [0x33#8, 0x46#8]) ∧
  decodeTableWord 40 0x33463A4142 = some (.record [0x33#8, 0x46#8] [0x41#8, 0x42#8]) ∧
  decodeTableWord 24 0x3C413D = none ∧ decodeTableWord 24 0x3C573D = none

/-- R82: every received byte belongs to exactly one class, decided by its value alone. -/
def Obligations.EveryByteHasOneClass : Prop :=
  ∀ b : Byte, (decodeByte b = .sof ↔ b = 0x3C#8) ∧ (decodeByte b = .eof ↔ b = 0x3D#8) ∧
    (decodeByte b = .data b ↔ b ≠ 0x3C#8 ∧ b ≠ 0x3D#8) ∧
    (decodeByte b = .sof ∨ decodeByte b = .eof ∨ decodeByte b = .data b)

/-- R87, R88: `HELLO` is the one payload of its class in the handshake; in the drain the tests stand in their order, and a record
is a payload with exactly one separator, its tokens the bytes around it. -/
def Obligations.ClassesOfAPayload : Prop :=
  ∀ p : Bytes,
    (p = [0x48#8, 0x45#8, 0x4C#8, 0x4C#8, 0x4F#8] → classifyHs p = .hello) ∧
    (p ≠ [0x48#8, 0x45#8, 0x4C#8, 0x4C#8, 0x4F#8] → classifyHs p = .other) ∧
    (p = [0x4F#8, 0x4B#8] → classifyDrain p = .ok) ∧
    (p = [0x45#8, 0x52#8, 0x52#8, 0x4F#8, 0x52#8] → classifyDrain p = .error) ∧
    (p ≠ [0x4F#8, 0x4B#8] → p ≠ [0x45#8, 0x52#8, 0x52#8, 0x4F#8, 0x52#8] →
      (p.count 0x3A#8 ≠ 1 → classifyDrain p = .invalid) ∧
      (p.count 0x3A#8 = 1 →
        ∃ k, k < p.length ∧ p[k]? = some 0x3A#8 ∧ classifyDrain p = .record (p.take k) (p.drop (k + 1))))

/-- Decoding the encoding of a well-formed instruction gives it back, at every value of its operands. -/
def Obligations.DecodeOfEncode : Prop :=
  ∀ (i : Instr) (bytes : Bytes), i.WellFormed → encode i = some bytes → decode i.level bytes = .ok i

/-- Bytes that decode are the encoding of what they decode to, and that is well formed and of the level asked for. -/
def Obligations.EncodeOfDecode : Prop :=
  ∀ (level : Level) (bytes : Bytes) (i : Instr), decode level bytes = .ok i →
    encode i = some bytes ∧ i.level = level ∧ i.WellFormed

/-! ## What a step does with each turn -/

/-- The model's bookkeeping (notes/assumptions/2.md, 3.md; the model's choice, no rule of the spec): turns and answers are taken
from the lists in the state, oldest first, and after them from the free values, one draw each. -/
def Obligations.TurnsAndAnswersAreTakenInOrder : Prop :=
  ∀ s : State,
    (∀ t later, s.sched = t :: later → s.nextTurn = t ∧ s.useTurn = { s with sched := later }) ∧
    (s.sched = [] → s.nextTurn = Config.freeTurn s.turnDraws ∧ s.useTurn = { s with turnDraws := s.turnDraws + 1 }) ∧
    (∀ a later, s.txAnswers = a :: later → s.nextTxAnswer = a ∧ s.useTxAnswer = { s with txAnswers := later }) ∧
    (s.txAnswers = [] →
      s.nextTxAnswer = Config.freeTxAnswer s.txDraws ∧ s.useTxAnswer = { s with txDraws := s.txDraws + 1 })

/-- A step in which the host makes a request runs the request's instruction, with the turn used up. -/
def Obligations.StepRunsTheRequest : Prop :=
  ∀ (s : State) (r : Request), s.nextTurn = .request r → step s = exec (decodeRequest r) s.useTurn

/-- R53: a step in which `RxRead` is answered `Byte` removes the head of the link queue and runs that byte's instruction. -/
def Obligations.StepRunsTheReceivedByte : Prop :=
  ∀ (s : State) (b : Byte) (rest : Bytes),
    s.nextTurn = .rxByte → (s.ps = .commandSent ∨ s.ps = .draining) → s.rxq = b :: rest →
    step s = exec (decodeByte b) { s.useTurn with rxq := rest }

/-- R115, R145, R164: a read failure during a search is the error of the command in flight, at once; the scanner keeps what it
has and nothing is removed from the link queue. `Timeout` is answered only while the queue is empty (R54). -/
def Obligations.StepOfAReadFailure : Prop :=
  ∀ (s : State) (op : Letter) (cause : ReadCause),
    s.nextTurn = .rxFail cause → (s.ps = .commandSent ∨ s.ps = .draining) → s.cur = some op →
    (cause = .timeout → s.rxq = []) →
    step s = .next { s.useTurn with
      ps := .failed
      err := some (linkErr op (.readFailed cause))
      results := s.results ++ [.error (linkErr op (.readFailed cause))] }

/-- R32: bytes the link delivers are appended to the tail of the queue, in every state, and change nothing else. -/
def Obligations.StepOfArrivingBytes : Prop :=
  ∀ (s : State) (bytes : Bytes), s.nextTurn = .arrive bytes →
    step s = .next { s.useTurn with rxq := s.rxq ++ bytes }

/-- R240: the reset input, from any state: every register and trace takes its reset value, `rxq` is not changed. -/
def Obligations.StepOfTheResetInput : Prop :=
  ∀ s : State, s.nextTurn = .reset →
    step s = .next { s.useTurn with
      inside := false, acc := [], ps := .unstarted, cur := none, hs := false, pos := 0#4, img := [], wrIdx := 0#16,
      err := none, tx := [], sink := [], results := [] }

/-- R54 and the model's choice (notes/assumptions/2.md): a turn of the link for which the block has issued no `RxRead`, a byte
answered from an empty queue, or a `Timeout` while bytes wait, passes: only the turn is used up. -/
def Obligations.TurnsNotEnabledPass : Prop :=
  ∀ s : State,
    (s.nextTurn = .rxByte → (s.ps ≠ .commandSent ∧ s.ps ≠ .draining ∨ s.rxq = []) → step s = .next s.useTurn) ∧
    (∀ cause, s.nextTurn = .rxFail cause →
      (s.ps ≠ .commandSent ∧ s.ps ≠ .draining ∨ cause = .timeout ∧ s.rxq ≠ []) → step s = .next s.useTurn)

/-! ## Received bytes -/

/-- R111: `SOF` begins a frame and drops whatever was accumulated, inside a frame or outside. -/
def Obligations.SofRestartsTheFrame : Prop :=
  ∀ s : State, exec .sof s = .next { s with inside := true, acc := [] }

/-- R112: inside a frame `EOF` leaves it and delivers the payload in the same step, to the rule R142 or R156 names; outside a
frame the byte is discarded. -/
def Obligations.EofDeliversThePayload : Prop :=
  ∀ s : State,
    (s.inside = true → exec .eof s = exec (payloadInstr s.cur s.acc) { s with inside := false, acc := [] }) ∧
    (s.inside = false → exec .eof s = .next s)

/-- A completed frame always has a reaction: with a command in flight (and an image that fits its address, R20) `EOF` answers a
next state, whatever the payload, and the scanner starts the next search outside a frame (R116). -/
def Obligations.EofOfAnAwaitedFrameCompletes : Prop :=
  ∀ (s : State) (op : Letter), s.inside = true → s.cur = some op → s.img.length ≤ 65536 →
    (s.ps = .commandSent ∨ s.ps = .draining ∧ op ≠ .h) →
    ∃ t, exec .eof s = .next t ∧ t.inside = false ∧ t.acc = [] ∧ t.rxq = s.rxq ∧ t.params = s.params ∧ t.img = s.img

/-- R113, R117: inside a frame any other byte is appended, or overflows a full accumulator (a `ConnectionError` in the handshake,
else a `TransportError`); outside a frame it is discarded. -/
def Obligations.DataIsAccumulated : Prop :=
  ∀ (s : State) (b : Byte),
    (s.inside = true → s.params.payloadMax ≠ some s.acc.length → exec (.data b) s = .next { s with acc := s.acc ++ [b] }) ∧
    (∀ op, s.inside = true → s.params.payloadMax = some s.acc.length → s.cur = some op →
      exec (.data b) s = .next { s with
        ps := .failed
        err := some (linkErr op .overflow)
        results := s.results ++ [.error (linkErr op .overflow)] }) ∧
    (s.inside = false → exec (.data b) s = .next s)

/-! ## Command frames -/

/-- R130, R131, R134: from `Idle` a command whose write is answered `Done` writes its whole frame, nothing escaped, and enters
`CommandSent`; `W` carries the address high byte, the address low byte and the data byte (R85). -/
def Obligations.CommandsAreIssued : Prop :=
  ∀ s : State, s.ps = .idle → s.nextTxAnswer = .done →
    (∀ i letter code, (i, letter, code) ∈ simpleCommands →
      exec i s = .next { s.useTxAnswer with
        tx := s.tx ++ [[0x3C#8, code, 0x3D#8]]
        cur := some letter, pos := 0#4, inside := false, acc := [], ps := .commandSent }) ∧
    (∀ a d, exec (.w a d) s = .next { s.useTxAnswer with
        tx := s.tx ++ [wFrame a.toNat d]
        cur := some .w, pos := 0#4, inside := false, acc := [], ps := .commandSent })

/-- R133: a failed frame write raises, `ConnectionError` for `H` and `TransportError` for the others; `tx` is unchanged. -/
def Obligations.FailedCommandWriteRaises : Prop :=
  ∀ (s : State) (cause : WriteCause), s.ps = .idle → s.nextTxAnswer = .fail cause →
    (∀ i letter code, (i, letter, code) ∈ simpleCommands →
      exec i s = .next { s.useTxAnswer with
        cur := some letter, ps := .failed
        err := some (linkErr letter (.writeFailed cause))
        results := s.results ++ [.error (linkErr letter (.writeFailed cause))] }) ∧
    (∀ a d, exec (.w a d) s = .next { s.useTxAnswer with
        cur := some .w, ps := .failed
        err := some (.transportError (.writeFailed cause))
        results := s.results ++ [.error (.transportError (.writeFailed cause))] })

/-- Outside the guards of R131, R142 and R156 a command or a payload stops by name (the model's choice, notes/assumptions/7.md): no
rule of the spec gives it an effect there. -/
def Obligations.RulesOutsideTheirGuardStop : Prop :=
  ∀ s : State,
    (s.ps ≠ .idle →
      (∀ i letter code, (i, letter, code) ∈ simpleCommands → exec i s = .refused .issueOutsideIdle) ∧
      (∀ a d, exec (.w a d) s = .refused .issueOutsideIdle)) ∧
    (¬ (s.ps = .commandSent ∧ s.cur = some .h) →
      exec .hello s = .refused .responseNotAwaited ∧ ∀ p, exec (.other p) s = .refused .responseNotAwaited) ∧
    (((s.ps ≠ .commandSent ∧ s.ps ≠ .draining) ∨ s.cur = none ∨ s.cur = some .h) →
      exec .ok s = .refused .responseNotAwaited ∧ exec .error s = .refused .responseNotAwaited ∧
      (∀ p, exec (.invalid p) s = .refused .responseNotAwaited) ∧
      (∀ a d, exec (.record a d) s = .refused .responseNotAwaited))

/-! ## Response payloads -/

/-- R143: the handshake's `HELLO`. -/
def Obligations.HelloEndsTheHandshake : Prop :=
  ∀ s : State, s.ps = .commandSent → s.cur = some .h →
    exec .hello s = .next { s with hs := true, ps := .idle, results := s.results ++ [.success] }

/-- R144: any other payload in the handshake is a `ConnectionError` with that payload; `hs` keeps its value. -/
def Obligations.OtherPayloadIsAConnectionError : Prop :=
  ∀ (s : State) (p : Bytes), s.ps = .commandSent → s.cur = some .h →
    exec (.other p) s = .next { s with
      ps := .failed
      err := some (.connectionError (.badPayload p))
      results := s.results ++ [.error (.connectionError (.badPayload p))] }

/-- R158: `OK` with no image byte left ends the operation with `Success`. -/
def Obligations.OkEndsTheOperation : Prop :=
  ∀ (s : State) (op : Letter), (s.ps = .commandSent ∨ s.ps = .draining) → s.cur = some op → op ≠ .h →
    ¬ (op = .w ∧ s.wrIdx.toNat + 1 < s.img.length) →
    exec .ok s = .next { s with ps := .idle, results := s.results ++ [.success] }

/-- R194, R133: `OK` inside a `WRITE` with bytes left advances the index and writes the next byte's frame in the same step, with
no result; when that write fails the index already names that byte. -/
def Obligations.OkSendsTheNextByte : Prop :=
  ∀ (s : State) (d : Byte), (s.ps = .commandSent ∨ s.ps = .draining) → s.cur = some .w → s.img.length ≤ 65536 →
    s.img[s.wrIdx.toNat + 1]? = some d →
    (s.nextTxAnswer = .done →
      exec .ok s = .next { s.useTxAnswer with
        wrIdx := BitVec.ofNat 16 (s.wrIdx.toNat + 1)
        tx := s.tx ++ [wFrame (s.wrIdx.toNat + 1) d]
        pos := 0#4, inside := false, acc := [], ps := .commandSent }) ∧
    (∀ cause, s.nextTxAnswer = .fail cause →
      exec .ok s = .next { s.useTxAnswer with
        wrIdx := BitVec.ofNat 16 (s.wrIdx.toNat + 1)
        ps := .failed
        err := some (.transportError (.writeFailed cause))
        results := s.results ++ [.error (.transportError (.writeFailed cause))] })

/-- R159: `ERROR` is a `DeviceError`; nothing is printed. -/
def Obligations.ErrorIsADeviceError : Prop :=
  ∀ (s : State) (op : Letter), (s.ps = .commandSent ∨ s.ps = .draining) → s.cur = some op → op ≠ .h →
    exec .error s = .next { s with
      ps := .failed, err := some .deviceError, results := s.results ++ [.error .deviceError] }

/-- R160: a payload that is neither a sentinel nor a record is an `InvalidResponseError`; nothing is printed. -/
def Obligations.InvalidPayloadIsAnError : Prop :=
  ∀ (s : State) (op : Letter) (p : Bytes), (s.ps = .commandSent ∨ s.ps = .draining) → s.cur = some op → op ≠ .h →
    exec (.invalid p) s = .next { s with
      ps := .failed
      err := some (.invalidResponseError p)
      results := s.results ++ [.error (.invalidResponseError p)] }

/-- R162: a record is printed, the column counter advances modulo 16, the drain goes on. -/
def Obligations.RecordIsPrinted : Prop :=
  ∀ (s : State) (op : Letter) (a d : Bytes), (s.ps = .commandSent ∨ s.ps = .draining) → s.cur = some op → op ≠ .h →
    exec (.record a d) s = .next { s with
      sink := s.sink ++ textAt s.params op s.pos.toNat a d
      pos := BitVec.ofNat 4 (s.pos.toNat + 1)
      ps := .draining }

/-! ## Host requests -/

/-- R140: `START` discards the buffered bytes unscanned and opens the run. -/
def Obligations.StartDrainsTheLink : Prop :=
  ∀ s : State, s.ps = .unstarted →
    exec .start s = .next { s with
      rxq := [], inside := false, acc := [], ps := .idle, results := s.results ++ [.success] }

/-- R141: `CHECK_CONNECTION` from `Idle` issues `H`, whether or not the handshake has been done; a failed write is a
`ConnectionError`. -/
def Obligations.CheckConnectionIssuesHello : Prop :=
  ∀ s : State, s.ps = .idle →
    (s.nextTxAnswer = .done →
      exec .checkConnection s = .next { s.useTxAnswer with
        tx := s.tx ++ [[0x3C#8, 0x48#8, 0x3D#8]]
        cur := some .h, pos := 0#4, inside := false, acc := [], ps := .commandSent }) ∧
    (∀ cause, s.nextTxAnswer = .fail cause →
      exec .checkConnection s = .next { s.useTxAnswer with
        cur := some .h, ps := .failed
        err := some (.connectionError (.link (.writeFailed cause)))
        results := s.results ++ [.error (.connectionError (.link (.writeFailed cause)))] })

/-- R176 to R179: `READ`, `CLEAR`, `LOCK`, `UNLOCK` from `Idle` after the handshake issue their command; a failed write is a
`TransportError`. -/
def Obligations.OperationsIssueTheirCommand : Prop :=
  ∀ (s : State) (r : Request) (letter : Letter) (code : Byte), (r, letter, code) ∈ operations →
    s.ps = .idle → s.hs = true →
    (s.nextTxAnswer = .done →
      exec (decodeRequest r) s = .next { s.useTxAnswer with
        tx := s.tx ++ [[0x3C#8, code, 0x3D#8]]
        cur := some letter, pos := 0#4, inside := false, acc := [], ps := .commandSent }) ∧
    (∀ cause, s.nextTxAnswer = .fail cause →
      exec (decodeRequest r) s = .next { s.useTxAnswer with
        cur := some letter, ps := .failed
        err := some (.transportError (.writeFailed cause))
        results := s.results ++ [.error (.transportError (.writeFailed cause))] })

/-- R193: `WRITE` latches the image, resets the index and issues the frame of byte 0; the empty image succeeds at once with no
frame; an image of more than 65536 bytes is refused with no frame and no change of `img`. -/
def Obligations.WriteLatchesAndSendsTheFirstByte : Prop :=
  ∀ (s : State) (image : Bytes), s.ps = .idle → s.hs = true →
    (image = [] → exec (.write image) s = .next { s with img := [], wrIdx := 0#16, results := s.results ++ [.success] }) ∧
    (∀ d, image.head? = some d → image.length ≤ 65536 → s.nextTxAnswer = .done →
      exec (.write image) s = .next { s.useTxAnswer with
        img := image, wrIdx := 0#16
        tx := s.tx ++ [[0x3C#8, 0x57#8, 0x00#8, 0x00#8, d, 0x3D#8]]
        cur := some .w, pos := 0#4, inside := false, acc := [], ps := .commandSent }) ∧
    (∀ cause, image ≠ [] → image.length ≤ 65536 → s.nextTxAnswer = .fail cause →
      exec (.write image) s = .next { s.useTxAnswer with
        img := image, wrIdx := 0#16
        cur := some .w, ps := .failed
        err := some (.transportError (.writeFailed cause))
        results := s.results ++ [.error (.transportError (.writeFailed cause))] }) ∧
    (image.length > 65536 → exec (.write image) s = .next { s with results := s.results ++ [.refused .imageTooLong] })

/-- R230: `SHUTDOWN` releases the transport and keeps `err`. -/
def Obligations.ShutdownClosesTheRun : Prop :=
  ∀ s : State, (s.ps = .unstarted ∨ s.ps = .idle ∨ s.ps = .failed) →
    exec .shutdown s = .next { s with ps := .closed, results := s.results ++ [.success] }

/-- R220, R221: a request the table refuses changes nothing but the result channel; one the table accepts is not refused; and
the codes of the reasons. -/
def Obligations.RefusalsFollowTheTable : Prop :=
  (∀ (s : State) (r : Request),
    (∀ reason, refusalTable s.hs s.ps r = some reason →
      exec (decodeRequest r) s = .next { s with results := s.results ++ [.refused reason] }) ∧
    (refusalTable s.hs s.ps r = none → ∀ t reason, exec (decodeRequest r) s = .next t →
      t.results ≠ s.results ++ [.refused reason])) ∧
  [Reason.notStarted, .alreadyStarted, .notHandshaken, .busy, .runFailed, .closed, .imageTooLong].map Reason.code =
    [1, 2, 3, 4, 5, 6, 7]

/-- R206, R205, R221: the numbers of the results. -/
def Obligations.ResultCodes : Prop :=
  Result.success.code = 0 ∧ (∀ c, (Result.error (.connectionError c)).code = 1) ∧
  (∀ c, (Result.error (.transportError c)).code = 2) ∧ (Result.error .deviceError).code = 3 ∧
  (∀ p, (Result.error (.invalidResponseError p)).code = 4) ∧
  [Reason.notStarted, .alreadyStarted, .notHandshaken, .busy, .runFailed, .closed, .imageTooLong].map
    (fun r => (Result.refused r).code) = [17, 18, 19, 20, 21, 22, 23]

/-- R240, R241, R20: the state after reset. -/
def Obligations.ResetValues : Prop :=
  State.reset.inside = false ∧ State.reset.acc = [] ∧ State.reset.ps = .unstarted ∧ State.reset.cur = none ∧
  State.reset.hs = false ∧ State.reset.pos = 0#4 ∧ State.reset.img = [] ∧ State.reset.wrIdx = 0#16 ∧
  State.reset.err = none ∧ State.reset.tx = [] ∧ State.reset.sink = [] ∧ State.reset.results = []

/-! ## Rules of the whole machine, over every step -/

/-- R24: every change of the control state is one the transition table allows, on the event its row names. -/
def Obligations.ControlStateTransitions : Prop :=
  ∀ s t : State, step s = .next t → t.ps = s.ps ∨
    (s.nextTurn = .reset ∧ t.ps = .unstarted) ∨
    (s.ps = .unstarted ∧ s.nextTurn = .request .start ∧ t.ps = .idle) ∨
    (IssuesCommand s ∧ s.nextTxAnswer = .done ∧ t.ps = .commandSent) ∨
    (IssuesCommand s ∧ (∃ cause, s.nextTxAnswer = .fail cause) ∧ t.ps = .failed) ∨
    (s.ps = .commandSent ∧ s.cur = some .h ∧ FrameCompletes s [0x48#8, 0x45#8, 0x4C#8, 0x4C#8, 0x4F#8] ∧ t.ps = .idle) ∨
    (DrainsItsResponse s ∧ ¬ HasMoreToWrite s ∧ FrameCompletes s [0x4F#8, 0x4B#8] ∧ t.ps = .idle) ∨
    (HasMoreToWrite s ∧ FrameCompletes s [0x4F#8, 0x4B#8] ∧ s.nextTxAnswer = .done ∧ t.ps = .commandSent) ∨
    (DrainsItsResponse s ∧ (∃ p, FrameCompletes s p ∧ p.count 0x3A#8 = 1) ∧ t.ps = .draining) ∨
    (ResponseFails s ∧ t.ps = .failed) ∨
    ((s.ps = .unstarted ∨ s.ps = .idle ∨ s.ps = .failed) ∧ s.nextTurn = .request .shutdown ∧ t.ps = .closed)

/-- R56, R65: a frame is written only from `Idle` on a request, or on the `OK` of a `W` with image bytes left; one frame a step,
appended, and it is the frame of the command that is then in flight: its letter is `cur`, and a `W` carries `wr_idx` and the
image byte there. -/
def Obligations.OneCommandInFlight : Prop :=
  ∀ s t : State, step s = .next t → s.nextTurn ≠ .reset → t.tx = s.tx ∨
    ∃ f, t.tx = s.tx ++ [f] ∧ t.ps = .commandSent ∧ t.IsOutstanding f ∧ s.nextTxAnswer = .done ∧
      (IssuesCommand s ∨ (HasMoreToWrite s ∧ FrameCompletes s [0x4F#8, 0x4B#8]))

/-- R32, R51, R53: the link queue changes in three ways only: V appends to its tail, a read removes its head while a command is
in flight, `START` empties it. -/
def Obligations.LinkQueueIsConsumedByteByByte : Prop :=
  ∀ s t : State, step s = .next t →
    (∃ q, t.rxq = s.rxq ++ q ∧ (q = [] ∨ s.nextTurn = .arrive q)) ∨
    ((s.ps = .commandSent ∨ s.ps = .draining) ∧ s.nextTurn = .rxByte ∧ ∃ b, s.rxq = b :: t.rxq) ∨
    (s.ps = .unstarted ∧ s.nextTurn = .request .start ∧ t.rxq = [])

/-- R26: the handshake flag is set by the frame `HELLO` received while the command is `H`, and by nothing else, and cleared only
by reset. -/
def Obligations.HandshakeFlagIsSetByHelloOnly : Prop :=
  ∀ s t : State, step s = .next t →
    (s.hs = false → t.hs = true →
      s.ps = .commandSent ∧ s.cur = some .h ∧ FrameCompletes s [0x48#8, 0x45#8, 0x4C#8, 0x4C#8, 0x4F#8]) ∧
    (s.hs = true → t.hs = false → s.nextTurn = .reset)

/-- R57, R162: the sink only grows, and only by the text of one record frame. -/
def Obligations.OnlyRecordsArePrinted : Prop :=
  ∀ s t : State, step s = .next t → s.nextTurn ≠ .reset → t.sink = s.sink ∨
    ∃ op a d, s.cur = some op ∧ op ≠ .h ∧ FrameCompletes s (a ++ [0x3A#8] ++ d) ∧ 0x3A#8 ∉ a ∧ 0x3A#8 ∉ d ∧
      t.sink = s.sink ++ textAt s.params op s.pos.toNat a d ∧ t.ps = .draining

/-- R58: a request produces exactly one result: at once, or when the command it issued is no longer in flight; nothing else
produces one. -/
def Obligations.OneResultForEveryRequest : Prop :=
  ∀ s t : State, step s = .next t → s.nextTurn ≠ .reset →
    (∀ r, s.nextTurn = .request r →
      (∃ x : Result, t.results = s.results ++ [x] ∧ (t.searching = true → s.searching = true)) ∨
      (t.results = s.results ∧ s.ps = .idle ∧ t.searching = true ∧ r ≠ .start ∧ r ≠ .shutdown ∧
        refusalTable s.hs s.ps r = none)) ∧
    ((∀ r, s.nextTurn ≠ .request r) →
      (t.results = s.results ∧ t.searching = s.searching) ∨
      (s.searching = true ∧ t.searching = false ∧
        ∃ x : Result, t.results = s.results ++ [x] ∧ ∀ reason, x ≠ .refused reason))

/-- R215: whenever a step fails the run, it records the error and reports that same error, and what was printed and the handshake
flag stay. -/
def Obligations.ErrorEntryIsPrecise : Prop :=
  ∀ s t : State, step s = .next t → s.ps ≠ .failed → t.ps = .failed →
    ∃ e, t.err = some e ∧ t.results = s.results ++ [.error e] ∧ t.sink = s.sink ∧ t.tx = s.tx ∧ t.hs = s.hs ∧ t.pos = s.pos

/-- R217: `Failed` is sticky: every request but `SHUTDOWN` is refused, the block neither reads nor writes, `err` and every other
register stay; only reset or `SHUTDOWN` leaves it, and only reset for a state in which commands are possible. -/
def Obligations.FailedIsSticky : Prop :=
  ∀ s t : State, step s = .next t → s.ps = .failed → s.nextTurn ≠ .reset →
    ∃ q rs, t = { s.useTurn with rxq := s.rxq ++ q, results := s.results ++ rs, ps := t.ps } ∧
      (q = [] ∨ s.nextTurn = .arrive q) ∧
      (t.ps = .failed ∨ (t.ps = .closed ∧ s.nextTurn = .request .shutdown)) ∧
      (∀ r, s.nextTurn = .request r → rs = [if r = .shutdown then .success else .refused .runFailed]) ∧
      ((∀ r, s.nextTurn ≠ .request r) → rs = [])

/-- R230: after `SHUTDOWN` the block touches neither `rxq` nor `tx`, and every request is refused with `Closed`, until reset. -/
def Obligations.ClosedIsFinal : Prop :=
  ∀ s t : State, step s = .next t → s.ps = .closed → s.nextTurn ≠ .reset →
    ∃ q rs, t = { s.useTurn with rxq := s.rxq ++ q, results := s.results ++ rs } ∧
      (q = [] ∨ s.nextTurn = .arrive q) ∧ (∀ r, s.nextTurn = .request r → rs = [.refused .closed]) ∧
      ((∀ r, s.nextTurn ≠ .request r) → rs = [])

/-- R64: the image changes only when a `WRITE` is accepted, to exactly the operand, or by reset. -/
def Obligations.ImageIsLatchedWhole : Prop :=
  ∀ s t : State, step s = .next t → s.nextTurn ≠ .reset → t.img ≠ s.img →
    s.nextTurn = .request (.write t.img) ∧ s.ps = .idle ∧ s.hs = true ∧ t.img.length ≤ 65536

/-! ## The scanner and the frame search -/

/-- R118: one received byte, with an unbounded accumulator, does to the scanner what `scan` says, and what `scan` delivers is
delivered. -/
def Obligations.ByteRulesRefineScan : Prop :=
  ∀ (s : State) (b : Byte), s.params.payloadMax = none → (s.inside = false → s.acc = []) →
    exec (decodeByte b) s =
      match scan s.inside s.acc b with
      | ((inside, acc), none) => .next { s with inside := inside, acc := acc }
      | ((inside, acc), some p) => exec (payloadInstr s.cur p) { s with inside := inside, acc := acc }

/-- R118, closed form: a stream delivers the bytes between the last start marker before the first end marker that has one, and
that end marker; nothing else. -/
def Obligations.ReadFrameClosedForm : Prop :=
  ∀ stream p rest : Bytes,
    (readFrame false [] stream = some (p, rest) ↔
      ∃ before, stream = before ++ [0x3C#8] ++ p ++ [0x3D#8] ++ rest ∧ noMarker p = true ∧
        0x3D#8 ∉ before.dropWhile (fun b => b != 0x3C#8)) ∧
    (readFrame false [] stream = none ↔ 0x3D#8 ∉ stream.dropWhile (fun b => b != 0x3C#8))

/-- R114, R118, R120: with an unbounded accumulator, a frame search over the bytes in the link queue reaches the delivery of the
frame those bytes hold, and leaves every byte after it in the queue. -/
def Obligations.FrameSearchDeliversTheFrame : Prop :=
  ∀ (s : State) (p rest : Bytes) (later : List Turn),
    s.searching = true → s.inside = false → s.acc = [] → s.params.payloadMax = none →
    readFrame false [] s.rxq = some (p, rest) →
    s.sched = List.replicate (s.rxq.length - rest.length) Turn.rxByte ++ later →
    run (s.rxq.length - rest.length) s =
      exec (payloadInstr s.cur p) { s with rxq := rest, sched := later }

/-- R256, R114: no bound on the search: however many bytes wait, whatever they are, if they complete no frame from where the
scanner stands, the block reads them all and is still searching; only the scanner and the queue have changed. (With an unbounded
accumulator; a bounded one ends the run by R117.) -/
def Obligations.FrameSearchHasNoBound : Prop :=
  ∀ (s : State) (later : List Turn),
    s.searching = true → s.params.payloadMax = none → (s.inside = false → s.acc = []) →
    readFrame s.inside s.acc s.rxq = none → s.sched = List.replicate s.rxq.length Turn.rxByte ++ later →
    ∃ t, run s.rxq.length s = .next t ∧ t.searching = true ∧ t.rxq = [] ∧
      t = { s with inside := t.inside, acc := t.acc, rxq := [], sched := later }

/-! ## Whole responses and whole operations -/

/-- R166, R158, R165: a response of `n` records and `OK` prints the records' text, 16 to a line, adds one `Success`, and leaves
the bytes after it in the queue. -/
def Obligations.ResponseOfRecordsIsPrinted : Prop :=
  ∀ (s : State) (op : Letter) (records : List (Bytes × Bytes)) (rest : Bytes) (later : List Turn),
    s.searching = true → s.cur = some op → op ≠ .h → s.inside = false → s.acc = [] → s.params.payloadMax = none →
    ¬ (op = .w ∧ s.wrIdx.toNat + 1 < s.img.length) → (∀ r ∈ records, IsRecord r) →
    let bytes := (records.map (fun r => rspFrame (recordPayload r))).flatten ++ rspFrame [0x4F#8, 0x4B#8]
    s.rxq = bytes ++ rest → s.sched = List.replicate bytes.length Turn.rxByte ++ later →
    run bytes.length s = .next { s with
      sink := s.sink ++ responseText s.params op s.pos.toNat records
      pos := BitVec.ofNat 4 (s.pos.toNat + records.length)
      ps := .idle
      results := s.results ++ [.success]
      rxq := rest
      sched := later }

/-- R244, R140, R141, R143: from any run not yet started, whatever stale bytes wait, `START` and `CHECK_CONNECTION` answered by
`HELLO` lead to `Idle` with the handshake done. -/
def Obligations.BootReachesIdle : Prop :=
  ∀ (s : State) (later : List Turn), s.ps = .unstarted → s.params.payloadMax = none → s.nextTxAnswer = .done →
    s.sched = [Turn.request .start, Turn.request .checkConnection,
      Turn.arrive (rspFrame [0x48#8, 0x45#8, 0x4C#8, 0x4C#8, 0x4F#8])] ++ List.replicate 7 Turn.rxByte ++ later →
    run 10 s = .next { s.useTxAnswer with
      inside := false, acc := [], ps := .idle, cur := some .h, hs := true, pos := 0#4
      tx := s.tx ++ [[0x3C#8, 0x48#8, 0x3D#8]]
      results := s.results ++ [.success, .success]
      rxq := []
      sched := later }

/-- R199, R195: a `WRITE` of `n` bytes, each frame written and each acknowledged by `OK` alone (no echo records), writes exactly
the `n` frames in order, byte `i` at address `i`, and reports one `Success`. -/
def Obligations.WriteSendsTheWholeImage : Prop :=
  ∀ (s : State) (image rest : Bytes) (later : List Turn) (answers : List TxAnswer),
    s.ps = .idle → s.hs = true → s.params.payloadMax = none → image ≠ [] → image.length ≤ 65536 →
    s.txAnswers = List.replicate image.length TxAnswer.done ++ answers →
    s.rxq = (List.replicate image.length (rspFrame [0x4F#8, 0x4B#8])).flatten ++ rest →
    s.sched = Turn.request (.write image) :: List.replicate (4 * image.length) Turn.rxByte ++ later →
    run (1 + 4 * image.length) s = .next { s with
      img := image
      wrIdx := BitVec.ofNat 16 (image.length - 1)
      tx := s.tx ++ image.mapIdx (fun i d => wFrame i d)
      cur := some .w, pos := 0#4, inside := false, acc := [], ps := .idle
      results := s.results ++ [.success]
      rxq := rest
      sched := later
      txAnswers := answers }

/-- R196, R159: a `WRITE` whose byte `k` is answered `ERROR` after `k` acknowledgments by `OK` alone (no echo records) ends the
run with `DeviceError`: the frames of bytes 0 to `k` were written and no other, and the index names byte `k`. -/
def Obligations.WriteAbortsAtTheFirstError : Prop :=
  ∀ (s : State) (image rest : Bytes) (k : Nat) (later : List Turn) (answers : List TxAnswer),
    s.ps = .idle → s.hs = true → s.params.payloadMax = none → k < image.length → image.length ≤ 65536 →
    s.txAnswers = List.replicate (k + 1) TxAnswer.done ++ answers →
    s.rxq = (List.replicate k (rspFrame [0x4F#8, 0x4B#8])).flatten ++
      rspFrame [0x45#8, 0x52#8, 0x52#8, 0x4F#8, 0x52#8] ++ rest →
    s.sched = Turn.request (.write image) :: List.replicate (4 * k + 7) Turn.rxByte ++ later →
    run (1 + (4 * k + 7)) s = .next { s with
      img := image
      wrIdx := BitVec.ofNat 16 k
      tx := s.tx ++ (image.take (k + 1)).mapIdx (fun i d => wFrame i d)
      cur := some .w, pos := 0#4, inside := false, acc := [], ps := .failed
      err := some .deviceError
      results := s.results ++ [.error .deviceError]
      rxq := rest
      sched := later
      txAnswers := answers }

/-! ## The invariant -/

/-- The invariant holds after reset. -/
def Obligations.ResetMeetsTheInvariant : Prop := State.reset.Inv

/-- Every step keeps the invariant: I-1 to I-7 of 10_state.md section 7 as far as a state shows them, R119, R147, R218. -/
def Obligations.StepKeepsTheInvariant : Prop :=
  ∀ s t : State, s.Inv → step s = .next t → t.Inv

/-- The machine is total (R221: "it is there so that the model is total"): from every state that meets the invariant, whatever the
host and the link do, a step answers a next state; no fault and no refusal is reachable. -/
def Obligations.NoStepStops : Prop :=
  ∀ s : State, s.Inv → ∃ t, step s = .next t
end

