-- ==== Sys2Proof/Laws/Decode.lean ====
section
/-! SUPPORT. The small facts about the encodings: markers, letters, tokens, the two halves of an address. -/

namespace Sys2Proof

@[simp] theorem noMarker_nil : noMarker [] = true := rfl

@[simp] theorem noMarker_cons (b : Byte) (p : Bytes) : noMarker (b :: p) = (!isMarker b && noMarker p) := rfl

@[simp] theorem noMarker_append (p q : Bytes) : noMarker (p ++ q) = (noMarker p && noMarker q) := by
  simp [noMarker]

theorem isMarker_false {b : Byte} (h : isMarker b = false) : b ≠ Config.SOF ∧ b ≠ Config.EOF := by
  simpa [isMarker] using h

theorem decodeByte_data {b : Byte} (h : isMarker b = false) : decodeByte b = .data b := by
  simp [decodeByte, isMarker_false h]

@[simp] theorem decodeByte_sof : decodeByte Config.SOF = .sof := rfl

@[simp] theorem decodeByte_eof : decodeByte Config.EOF = .eof := rfl

/-- What the class of a byte can be (R82). -/
theorem decodeByte_cases (b : Byte) :
    (b = Config.SOF ∧ decodeByte b = .sof) ∨ (b = Config.EOF ∧ decodeByte b = .eof) ∨
      (isMarker b = false ∧ decodeByte b = .data b) := by
  by_cases h1 : b = Config.SOF
  · exact .inl ⟨h1, by rw [h1]; rfl⟩
  · by_cases h2 : b = Config.EOF
    · exact .inr (.inl ⟨h2, by rw [h2]; rfl⟩)
    · have h : isMarker b = false := by simp [isMarker, h1, h2]
      exact .inr (.inr ⟨h, decodeByte_data h⟩)

@[simp] theorem letterOf_code (x : Letter) : letterOf x.code = some x := by cases x <;> rfl

/-- A letter is found only under its own code (R84). -/
theorem letterOf_some {b : Byte} {x : Letter} (h : letterOf b = some x) : x.code = b := by
  have := List.find?_some h
  simpa using this

theorem addrOf_split (a : Addr) : addrOf (a.extractLsb' 8 8) (a.extractLsb' 0 8) = a := by
  apply BitVec.eq_of_getLsbD_eq
  intro i hi
  unfold addrOf
  rw [BitVec.getLsbD_append]
  by_cases h : i < 8
  · simp [h]
  · have : i - 8 < 8 := by omega
    have e : 8 + (i - 8) = i := by omega
    simp [h, this, e]

theorem extract_hi_addrOf (hi lo : Byte) : (addrOf hi lo).extractLsb' 8 8 = hi := by
  apply BitVec.eq_of_getLsbD_eq
  intro i hi'
  unfold addrOf
  rw [BitVec.getLsbD_extractLsb', BitVec.getLsbD_append]
  simp [hi']

theorem extract_lo_addrOf (hi lo : Byte) : (addrOf hi lo).extractLsb' 0 8 = lo := by
  apply BitVec.eq_of_getLsbD_eq
  intro i hi'
  unfold addrOf
  rw [BitVec.getLsbD_extractLsb', BitVec.getLsbD_append]
  simp [hi']

theorem takeWhile_sep (a d : Bytes) (h : Config.SEP ∉ a) : addrToken (a ++ Config.SEP :: d) = a := by
  induction a with
  | nil => simp [addrToken]
  | cons x xs ih =>
    obtain ⟨h1, h2⟩ : Config.SEP ≠ x ∧ Config.SEP ∉ xs := by simpa using h
    have := ih h2
    simp only [addrToken] at this ⊢
    simp [Ne.symm h1, this]

theorem dropWhile_sep (a d : Bytes) (h : Config.SEP ∉ a) : dataToken (a ++ Config.SEP :: d) = d := by
  induction a with
  | nil => simp [dataToken]
  | cons x xs ih =>
    obtain ⟨h1, h2⟩ : Config.SEP ≠ x ∧ Config.SEP ∉ xs := by simpa using h
    have := ih h2
    simp only [dataToken] at this ⊢
    simp [Ne.symm h1, this]

/-- A payload with a separator is its two tokens around the first one (R88). -/
theorem tokens_join (p : Bytes) (h : Config.SEP ∈ p) :
    p = addrToken p ++ Config.SEP :: dataToken p ∧ Config.SEP ∉ addrToken p := by
  induction p with
  | nil => simp at h
  | cons x xs ih =>
    by_cases hx : x = Config.SEP
    · simp [addrToken, dataToken, hx]
    · have hm : Config.SEP ∈ xs := by simpa [Ne.symm hx] using h
      obtain ⟨h1, h2⟩ := ih hm
      have e1 : addrToken (x :: xs) = x :: addrToken xs := by simp [addrToken, hx]
      have e2 : dataToken (x :: xs) = dataToken xs := by simp [dataToken, hx]
      rw [e1, e2]
      exact ⟨by simpa using h1, by simp [Ne.symm hx, h2]⟩

/-- The class of a payload made of two tokens (R88). -/
theorem classifyDrain_record (a d : Bytes) (ha : Config.SEP ∉ a) (hd : Config.SEP ∉ d) :
    classifyDrain (a ++ Config.SEP :: d) = .record a d := by
  have hm : Config.SEP ∈ a ++ Config.SEP :: d := by simp
  have h1 : a ++ Config.SEP :: d ≠ Config.okText := fun e => by rw [e] at hm; exact absurd hm (by decide)
  have h2 : a ++ Config.SEP :: d ≠ Config.errorText := fun e => by rw [e] at hm; exact absurd hm (by decide)
  have hc : (a ++ Config.SEP :: d).count Config.SEP = 1 := by
    simp [List.count_append, List.count_eq_zero_of_not_mem ha, List.count_eq_zero_of_not_mem hd]
  simp [classifyDrain, h1, h2, hc, takeWhile_sep a d ha, dropWhile_sep a d ha]

/-- What the class of a payload in the drain can be (R88). -/
theorem classifyDrain_cases (p : Bytes) :
    (p = Config.okText ∧ classifyDrain p = .ok) ∨ (p = Config.errorText ∧ classifyDrain p = .error) ∨
      (p ≠ Config.okText ∧ p ≠ Config.errorText ∧ p.count Config.SEP ≠ 1 ∧ classifyDrain p = .invalid) ∨
      (∃ a d, p = a ++ Config.SEP :: d ∧ Config.SEP ∉ a ∧ Config.SEP ∉ d ∧ classifyDrain p = .record a d) := by
  by_cases h1 : p = Config.okText
  · exact .inl ⟨h1, by rw [h1]; rfl⟩
  by_cases h2 : p = Config.errorText
  · exact .inr (.inl ⟨h2, by rw [h2]; rfl⟩)
  by_cases h3 : p.count Config.SEP = 1
  · have hm : Config.SEP ∈ p := List.count_pos_iff.mp (by omega)
    obtain ⟨hj, ha⟩ := tokens_join p hm
    have hd : Config.SEP ∉ dataToken p := by
      have := h3
      rw [hj, List.count_append, List.count_cons_self, List.count_eq_zero_of_not_mem ha] at this
      exact List.count_eq_zero.mp (by omega)
    exact .inr (.inr (.inr ⟨_, _, hj, ha, hd, (congrArg classifyDrain hj).trans (classifyDrain_record _ _ ha hd)⟩))
  · exact .inr (.inr (.inl ⟨h1, h2, h3, by simp [classifyDrain, h1, h2, h3]⟩))

@[simp] theorem bytesOfNumber_length (n w : Nat) : (bytesOfNumber n w).length = n := by
  induction n <;> simp [bytesOfNumber, *]

end Sys2Proof
end

