-- ==== Sys2Proof/Laws/State.lean ====
section
/-! SUPPORT. What each update of the state leaves in each field: one lemma per field per update, true by unfolding. -/

namespace Sys2Proof.Machine

variable (s : State)

/-! ## report -/

@[simp] theorem State.report_inside (r : Result) : (s.report r).inside = s.inside := rfl
@[simp] theorem State.report_acc (r : Result) : (s.report r).acc = s.acc := rfl
@[simp] theorem State.report_ps (r : Result) : (s.report r).ps = s.ps := rfl
@[simp] theorem State.report_cur (r : Result) : (s.report r).cur = s.cur := rfl
@[simp] theorem State.report_hs (r : Result) : (s.report r).hs = s.hs := rfl
@[simp] theorem State.report_pos (r : Result) : (s.report r).pos = s.pos := rfl
@[simp] theorem State.report_img (r : Result) : (s.report r).img = s.img := rfl
@[simp] theorem State.report_wrIdx (r : Result) : (s.report r).wrIdx = s.wrIdx := rfl
@[simp] theorem State.report_err (r : Result) : (s.report r).err = s.err := rfl
@[simp] theorem State.report_tx (r : Result) : (s.report r).tx = s.tx := rfl
@[simp] theorem State.report_sink (r : Result) : (s.report r).sink = s.sink := rfl
@[simp] theorem State.report_results (r : Result) : (s.report r).results = s.results ++ [r] := rfl
@[simp] theorem State.report_rxq (r : Result) : (s.report r).rxq = s.rxq := rfl
@[simp] theorem State.report_params (r : Result) : (s.report r).params = s.params := rfl
@[simp] theorem State.report_sched (r : Result) : (s.report r).sched = s.sched := rfl
@[simp] theorem State.report_turnDraws (r : Result) : (s.report r).turnDraws = s.turnDraws := rfl
@[simp] theorem State.report_txAnswers (r : Result) : (s.report r).txAnswers = s.txAnswers := rfl
@[simp] theorem State.report_txDraws (r : Result) : (s.report r).txDraws = s.txDraws := rfl

/-! ## sinkEmit -/

@[simp] theorem State.sinkEmit_inside (b : Bytes) : (s.sinkEmit b).inside = s.inside := rfl
@[simp] theorem State.sinkEmit_acc (b : Bytes) : (s.sinkEmit b).acc = s.acc := rfl
@[simp] theorem State.sinkEmit_ps (b : Bytes) : (s.sinkEmit b).ps = s.ps := rfl
@[simp] theorem State.sinkEmit_cur (b : Bytes) : (s.sinkEmit b).cur = s.cur := rfl
@[simp] theorem State.sinkEmit_hs (b : Bytes) : (s.sinkEmit b).hs = s.hs := rfl
@[simp] theorem State.sinkEmit_pos (b : Bytes) : (s.sinkEmit b).pos = s.pos := rfl
@[simp] theorem State.sinkEmit_img (b : Bytes) : (s.sinkEmit b).img = s.img := rfl
@[simp] theorem State.sinkEmit_wrIdx (b : Bytes) : (s.sinkEmit b).wrIdx = s.wrIdx := rfl
@[simp] theorem State.sinkEmit_err (b : Bytes) : (s.sinkEmit b).err = s.err := rfl
@[simp] theorem State.sinkEmit_tx (b : Bytes) : (s.sinkEmit b).tx = s.tx := rfl
@[simp] theorem State.sinkEmit_sink (b : Bytes) : (s.sinkEmit b).sink = s.sink ++ b := rfl
@[simp] theorem State.sinkEmit_results (b : Bytes) : (s.sinkEmit b).results = s.results := rfl
@[simp] theorem State.sinkEmit_rxq (b : Bytes) : (s.sinkEmit b).rxq = s.rxq := rfl
@[simp] theorem State.sinkEmit_params (b : Bytes) : (s.sinkEmit b).params = s.params := rfl
@[simp] theorem State.sinkEmit_sched (b : Bytes) : (s.sinkEmit b).sched = s.sched := rfl
@[simp] theorem State.sinkEmit_turnDraws (b : Bytes) : (s.sinkEmit b).turnDraws = s.turnDraws := rfl
@[simp] theorem State.sinkEmit_txAnswers (b : Bytes) : (s.sinkEmit b).txAnswers = s.txAnswers := rfl
@[simp] theorem State.sinkEmit_txDraws (b : Bytes) : (s.sinkEmit b).txDraws = s.txDraws := rfl

/-! ## rxFlush -/

@[simp] theorem State.rxFlush_inside : s.rxFlush.inside = s.inside := rfl
@[simp] theorem State.rxFlush_acc : s.rxFlush.acc = s.acc := rfl
@[simp] theorem State.rxFlush_ps : s.rxFlush.ps = s.ps := rfl
@[simp] theorem State.rxFlush_cur : s.rxFlush.cur = s.cur := rfl
@[simp] theorem State.rxFlush_hs : s.rxFlush.hs = s.hs := rfl
@[simp] theorem State.rxFlush_pos : s.rxFlush.pos = s.pos := rfl
@[simp] theorem State.rxFlush_img : s.rxFlush.img = s.img := rfl
@[simp] theorem State.rxFlush_wrIdx : s.rxFlush.wrIdx = s.wrIdx := rfl
@[simp] theorem State.rxFlush_err : s.rxFlush.err = s.err := rfl
@[simp] theorem State.rxFlush_tx : s.rxFlush.tx = s.tx := rfl
@[simp] theorem State.rxFlush_sink : s.rxFlush.sink = s.sink := rfl
@[simp] theorem State.rxFlush_results : s.rxFlush.results = s.results := rfl
@[simp] theorem State.rxFlush_rxq : s.rxFlush.rxq = [] := rfl
@[simp] theorem State.rxFlush_params : s.rxFlush.params = s.params := rfl
@[simp] theorem State.rxFlush_sched : s.rxFlush.sched = s.sched := rfl
@[simp] theorem State.rxFlush_turnDraws : s.rxFlush.turnDraws = s.turnDraws := rfl
@[simp] theorem State.rxFlush_txAnswers : s.rxFlush.txAnswers = s.txAnswers := rfl
@[simp] theorem State.rxFlush_txDraws : s.rxFlush.txDraws = s.txDraws := rfl

/-! ## rxAppend -/

@[simp] theorem State.rxAppend_inside (b : Bytes) : (s.rxAppend b).inside = s.inside := rfl
@[simp] theorem State.rxAppend_acc (b : Bytes) : (s.rxAppend b).acc = s.acc := rfl
@[simp] theorem State.rxAppend_ps (b : Bytes) : (s.rxAppend b).ps = s.ps := rfl
@[simp] theorem State.rxAppend_cur (b : Bytes) : (s.rxAppend b).cur = s.cur := rfl
@[simp] theorem State.rxAppend_hs (b : Bytes) : (s.rxAppend b).hs = s.hs := rfl
@[simp] theorem State.rxAppend_pos (b : Bytes) : (s.rxAppend b).pos = s.pos := rfl
@[simp] theorem State.rxAppend_img (b : Bytes) : (s.rxAppend b).img = s.img := rfl
@[simp] theorem State.rxAppend_wrIdx (b : Bytes) : (s.rxAppend b).wrIdx = s.wrIdx := rfl
@[simp] theorem State.rxAppend_err (b : Bytes) : (s.rxAppend b).err = s.err := rfl
@[simp] theorem State.rxAppend_tx (b : Bytes) : (s.rxAppend b).tx = s.tx := rfl
@[simp] theorem State.rxAppend_sink (b : Bytes) : (s.rxAppend b).sink = s.sink := rfl
@[simp] theorem State.rxAppend_results (b : Bytes) : (s.rxAppend b).results = s.results := rfl
@[simp] theorem State.rxAppend_rxq (b : Bytes) : (s.rxAppend b).rxq = s.rxq ++ b := rfl
@[simp] theorem State.rxAppend_params (b : Bytes) : (s.rxAppend b).params = s.params := rfl
@[simp] theorem State.rxAppend_sched (b : Bytes) : (s.rxAppend b).sched = s.sched := rfl
@[simp] theorem State.rxAppend_turnDraws (b : Bytes) : (s.rxAppend b).turnDraws = s.turnDraws := rfl
@[simp] theorem State.rxAppend_txAnswers (b : Bytes) : (s.rxAppend b).txAnswers = s.txAnswers := rfl
@[simp] theorem State.rxAppend_txDraws (b : Bytes) : (s.rxAppend b).txDraws = s.txDraws := rfl

/-! ## useTxAnswer -/

@[simp] theorem State.useTxAnswer_inside : s.useTxAnswer.inside = s.inside := rfl
@[simp] theorem State.useTxAnswer_acc : s.useTxAnswer.acc = s.acc := rfl
@[simp] theorem State.useTxAnswer_ps : s.useTxAnswer.ps = s.ps := rfl
@[simp] theorem State.useTxAnswer_cur : s.useTxAnswer.cur = s.cur := rfl
@[simp] theorem State.useTxAnswer_hs : s.useTxAnswer.hs = s.hs := rfl
@[simp] theorem State.useTxAnswer_pos : s.useTxAnswer.pos = s.pos := rfl
@[simp] theorem State.useTxAnswer_img : s.useTxAnswer.img = s.img := rfl
@[simp] theorem State.useTxAnswer_wrIdx : s.useTxAnswer.wrIdx = s.wrIdx := rfl
@[simp] theorem State.useTxAnswer_err : s.useTxAnswer.err = s.err := rfl
@[simp] theorem State.useTxAnswer_tx : s.useTxAnswer.tx = s.tx := rfl
@[simp] theorem State.useTxAnswer_sink : s.useTxAnswer.sink = s.sink := rfl
@[simp] theorem State.useTxAnswer_results : s.useTxAnswer.results = s.results := rfl
@[simp] theorem State.useTxAnswer_rxq : s.useTxAnswer.rxq = s.rxq := rfl
@[simp] theorem State.useTxAnswer_params : s.useTxAnswer.params = s.params := rfl
@[simp] theorem State.useTxAnswer_sched : s.useTxAnswer.sched = s.sched := rfl
@[simp] theorem State.useTxAnswer_turnDraws : s.useTxAnswer.turnDraws = s.turnDraws := rfl
@[simp] theorem State.useTxAnswer_txAnswers : s.useTxAnswer.txAnswers = s.txAnswers.tail := rfl
@[simp] theorem State.useTxAnswer_txDraws : s.useTxAnswer.txDraws = if s.txAnswers.isEmpty then s.txDraws + 1 else s.txDraws := rfl

/-! ## raise -/

@[simp] theorem State.raise_inside (e : Err) : (s.raise e).inside = s.inside := rfl
@[simp] theorem State.raise_acc (e : Err) : (s.raise e).acc = s.acc := rfl
@[simp] theorem State.raise_ps (e : Err) : (s.raise e).ps = .failed := rfl
@[simp] theorem State.raise_cur (e : Err) : (s.raise e).cur = s.cur := rfl
@[simp] theorem State.raise_hs (e : Err) : (s.raise e).hs = s.hs := rfl
@[simp] theorem State.raise_pos (e : Err) : (s.raise e).pos = s.pos := rfl
@[simp] theorem State.raise_img (e : Err) : (s.raise e).img = s.img := rfl
@[simp] theorem State.raise_wrIdx (e : Err) : (s.raise e).wrIdx = s.wrIdx := rfl
@[simp] theorem State.raise_err (e : Err) : (s.raise e).err = some e := rfl
@[simp] theorem State.raise_tx (e : Err) : (s.raise e).tx = s.tx := rfl
@[simp] theorem State.raise_sink (e : Err) : (s.raise e).sink = s.sink := rfl
@[simp] theorem State.raise_results (e : Err) : (s.raise e).results = s.results ++ [.error e] := rfl
@[simp] theorem State.raise_rxq (e : Err) : (s.raise e).rxq = s.rxq := rfl
@[simp] theorem State.raise_params (e : Err) : (s.raise e).params = s.params := rfl
@[simp] theorem State.raise_sched (e : Err) : (s.raise e).sched = s.sched := rfl
@[simp] theorem State.raise_turnDraws (e : Err) : (s.raise e).turnDraws = s.turnDraws := rfl
@[simp] theorem State.raise_txAnswers (e : Err) : (s.raise e).txAnswers = s.txAnswers := rfl
@[simp] theorem State.raise_txDraws (e : Err) : (s.raise e).txDraws = s.txDraws := rfl

/-! ## refuse -/

@[simp] theorem State.refuse_inside (x : Reason) : (s.refuse x).inside = s.inside := rfl
@[simp] theorem State.refuse_acc (x : Reason) : (s.refuse x).acc = s.acc := rfl
@[simp] theorem State.refuse_ps (x : Reason) : (s.refuse x).ps = s.ps := rfl
@[simp] theorem State.refuse_cur (x : Reason) : (s.refuse x).cur = s.cur := rfl
@[simp] theorem State.refuse_hs (x : Reason) : (s.refuse x).hs = s.hs := rfl
@[simp] theorem State.refuse_pos (x : Reason) : (s.refuse x).pos = s.pos := rfl
@[simp] theorem State.refuse_img (x : Reason) : (s.refuse x).img = s.img := rfl
@[simp] theorem State.refuse_wrIdx (x : Reason) : (s.refuse x).wrIdx = s.wrIdx := rfl
@[simp] theorem State.refuse_err (x : Reason) : (s.refuse x).err = s.err := rfl
@[simp] theorem State.refuse_tx (x : Reason) : (s.refuse x).tx = s.tx := rfl
@[simp] theorem State.refuse_sink (x : Reason) : (s.refuse x).sink = s.sink := rfl
@[simp] theorem State.refuse_results (x : Reason) : (s.refuse x).results = s.results ++ [.refused x] := rfl
@[simp] theorem State.refuse_rxq (x : Reason) : (s.refuse x).rxq = s.rxq := rfl
@[simp] theorem State.refuse_params (x : Reason) : (s.refuse x).params = s.params := rfl
@[simp] theorem State.refuse_sched (x : Reason) : (s.refuse x).sched = s.sched := rfl
@[simp] theorem State.refuse_turnDraws (x : Reason) : (s.refuse x).turnDraws = s.turnDraws := rfl
@[simp] theorem State.refuse_txAnswers (x : Reason) : (s.refuse x).txAnswers = s.txAnswers := rfl
@[simp] theorem State.refuse_txDraws (x : Reason) : (s.refuse x).txDraws = s.txDraws := rfl

/-! ## enterCommandSent -/

@[simp] theorem State.enterCommandSent_inside (x : Letter) : (s.enterCommandSent x).inside = false := rfl
@[simp] theorem State.enterCommandSent_acc (x : Letter) : (s.enterCommandSent x).acc = [] := rfl
@[simp] theorem State.enterCommandSent_ps (x : Letter) : (s.enterCommandSent x).ps = .commandSent := rfl
@[simp] theorem State.enterCommandSent_cur (x : Letter) : (s.enterCommandSent x).cur = some x := rfl
@[simp] theorem State.enterCommandSent_hs (x : Letter) : (s.enterCommandSent x).hs = s.hs := rfl
@[simp] theorem State.enterCommandSent_pos (x : Letter) : (s.enterCommandSent x).pos = 0#4 := rfl
@[simp] theorem State.enterCommandSent_img (x : Letter) : (s.enterCommandSent x).img = s.img := rfl
@[simp] theorem State.enterCommandSent_wrIdx (x : Letter) : (s.enterCommandSent x).wrIdx = s.wrIdx := rfl
@[simp] theorem State.enterCommandSent_err (x : Letter) : (s.enterCommandSent x).err = s.err := rfl
@[simp] theorem State.enterCommandSent_tx (x : Letter) : (s.enterCommandSent x).tx = s.tx := rfl
@[simp] theorem State.enterCommandSent_sink (x : Letter) : (s.enterCommandSent x).sink = s.sink := rfl
@[simp] theorem State.enterCommandSent_results (x : Letter) : (s.enterCommandSent x).results = s.results := rfl
@[simp] theorem State.enterCommandSent_rxq (x : Letter) : (s.enterCommandSent x).rxq = s.rxq := rfl
@[simp] theorem State.enterCommandSent_params (x : Letter) : (s.enterCommandSent x).params = s.params := rfl
@[simp] theorem State.enterCommandSent_sched (x : Letter) : (s.enterCommandSent x).sched = s.sched := rfl
@[simp] theorem State.enterCommandSent_turnDraws (x : Letter) : (s.enterCommandSent x).turnDraws = s.turnDraws := rfl
@[simp] theorem State.enterCommandSent_txAnswers (x : Letter) : (s.enterCommandSent x).txAnswers = s.txAnswers := rfl
@[simp] theorem State.enterCommandSent_txDraws (x : Letter) : (s.enterCommandSent x).txDraws = s.txDraws := rfl

/-! ## readFailed -/

@[simp] theorem State.readFailed_inside (c : ReadCause) : (s.readFailed c).inside = s.inside := rfl
@[simp] theorem State.readFailed_acc (c : ReadCause) : (s.readFailed c).acc = s.acc := rfl
@[simp] theorem State.readFailed_ps (c : ReadCause) : (s.readFailed c).ps = .failed := rfl
@[simp] theorem State.readFailed_cur (c : ReadCause) : (s.readFailed c).cur = s.cur := rfl
@[simp] theorem State.readFailed_hs (c : ReadCause) : (s.readFailed c).hs = s.hs := rfl
@[simp] theorem State.readFailed_pos (c : ReadCause) : (s.readFailed c).pos = s.pos := rfl
@[simp] theorem State.readFailed_img (c : ReadCause) : (s.readFailed c).img = s.img := rfl
@[simp] theorem State.readFailed_wrIdx (c : ReadCause) : (s.readFailed c).wrIdx = s.wrIdx := rfl
@[simp] theorem State.readFailed_err (c : ReadCause) : (s.readFailed c).err = some (linkError s.cur (.readFailed c)) := rfl
@[simp] theorem State.readFailed_tx (c : ReadCause) : (s.readFailed c).tx = s.tx := rfl
@[simp] theorem State.readFailed_sink (c : ReadCause) : (s.readFailed c).sink = s.sink := rfl
@[simp] theorem State.readFailed_results (c : ReadCause) : (s.readFailed c).results = s.results ++ [.error (linkError s.cur (.readFailed c))] := rfl
@[simp] theorem State.readFailed_rxq (c : ReadCause) : (s.readFailed c).rxq = s.rxq := rfl
@[simp] theorem State.readFailed_params (c : ReadCause) : (s.readFailed c).params = s.params := rfl
@[simp] theorem State.readFailed_sched (c : ReadCause) : (s.readFailed c).sched = s.sched := rfl
@[simp] theorem State.readFailed_turnDraws (c : ReadCause) : (s.readFailed c).turnDraws = s.turnDraws := rfl
@[simp] theorem State.readFailed_txAnswers (c : ReadCause) : (s.readFailed c).txAnswers = s.txAnswers := rfl
@[simp] theorem State.readFailed_txDraws (c : ReadCause) : (s.readFailed c).txDraws = s.txDraws := rfl

/-! ## resetInput -/

@[simp] theorem State.resetInput_inside : s.resetInput.inside = false := rfl
@[simp] theorem State.resetInput_acc : s.resetInput.acc = [] := rfl
@[simp] theorem State.resetInput_ps : s.resetInput.ps = .unstarted := rfl
@[simp] theorem State.resetInput_cur : s.resetInput.cur = none := rfl
@[simp] theorem State.resetInput_hs : s.resetInput.hs = false := rfl
@[simp] theorem State.resetInput_pos : s.resetInput.pos = 0#4 := rfl
@[simp] theorem State.resetInput_img : s.resetInput.img = [] := rfl
@[simp] theorem State.resetInput_wrIdx : s.resetInput.wrIdx = 0#16 := rfl
@[simp] theorem State.resetInput_err : s.resetInput.err = none := rfl
@[simp] theorem State.resetInput_tx : s.resetInput.tx = [] := rfl
@[simp] theorem State.resetInput_sink : s.resetInput.sink = [] := rfl
@[simp] theorem State.resetInput_results : s.resetInput.results = [] := rfl
@[simp] theorem State.resetInput_rxq : s.resetInput.rxq = s.rxq := rfl
@[simp] theorem State.resetInput_params : s.resetInput.params = s.params := rfl
@[simp] theorem State.resetInput_sched : s.resetInput.sched = s.sched := rfl
@[simp] theorem State.resetInput_turnDraws : s.resetInput.turnDraws = s.turnDraws := rfl
@[simp] theorem State.resetInput_txAnswers : s.resetInput.txAnswers = s.txAnswers := rfl
@[simp] theorem State.resetInput_txDraws : s.resetInput.txDraws = s.txDraws := rfl

/-! ## useTurn -/

@[simp] theorem State.useTurn_inside : s.useTurn.inside = s.inside := rfl
@[simp] theorem State.useTurn_acc : s.useTurn.acc = s.acc := rfl
@[simp] theorem State.useTurn_ps : s.useTurn.ps = s.ps := rfl
@[simp] theorem State.useTurn_cur : s.useTurn.cur = s.cur := rfl
@[simp] theorem State.useTurn_hs : s.useTurn.hs = s.hs := rfl
@[simp] theorem State.useTurn_pos : s.useTurn.pos = s.pos := rfl
@[simp] theorem State.useTurn_img : s.useTurn.img = s.img := rfl
@[simp] theorem State.useTurn_wrIdx : s.useTurn.wrIdx = s.wrIdx := rfl
@[simp] theorem State.useTurn_err : s.useTurn.err = s.err := rfl
@[simp] theorem State.useTurn_tx : s.useTurn.tx = s.tx := rfl
@[simp] theorem State.useTurn_sink : s.useTurn.sink = s.sink := rfl
@[simp] theorem State.useTurn_results : s.useTurn.results = s.results := rfl
@[simp] theorem State.useTurn_rxq : s.useTurn.rxq = s.rxq := rfl
@[simp] theorem State.useTurn_params : s.useTurn.params = s.params := rfl
@[simp] theorem State.useTurn_sched : s.useTurn.sched = s.sched.tail := rfl
@[simp] theorem State.useTurn_turnDraws : s.useTurn.turnDraws = if s.sched.isEmpty then s.turnDraws + 1 else s.turnDraws := rfl
@[simp] theorem State.useTurn_txAnswers : s.useTurn.txAnswers = s.txAnswers := rfl
@[simp] theorem State.useTurn_txDraws : s.useTurn.txDraws = s.txDraws := rfl

end Sys2Proof.Machine
end

