-- ==== Sys2Proof/Laws/Ops.lean ====
section
/-! SUPPORT. What each shared operation can do, said once: the channel primitives, the issue of a command, the next `W`. -/

namespace Sys2Proof.Machine

open Host (Outcome)

theorem State.txWrite_done {s : State} (f : Bytes) (h : s.nextTxAnswer = .done) :
    s.txWrite f = (.done, { s.useTxAnswer with tx := s.tx ++ [f] }) := by
  simp [State.txWrite, h]

theorem State.txWrite_fail {s : State} (f : Bytes) {cause : WriteCause} (h : s.nextTxAnswer = .fail cause) :
    s.txWrite f = (.fail cause, s.useTxAnswer) := by
  simp [State.txWrite, h]

theorem State.rxRead_cons {s : State} {b : Byte} {rest : Bytes} (h : s.rxq = b :: rest) :
    s.rxRead = some (b, { s with rxq := rest }) := by
  simp [State.rxRead, h]

theorem State.rxRead_nil {s : State} (h : s.rxq = []) : s.rxRead = none := by
  simp [State.rxRead, h]

/-- The state a written command leaves (R131). -/
def State.issued (s : State) (letter : Letter) (arg : Bytes) : State :=
  State.enterCommandSent { s.useTxAnswer with tx := s.tx ++ [frame letter arg] } letter

/-- The state a command whose write failed leaves (R133). -/
def State.issueFailed (s : State) (letter : Letter) (cause : WriteCause) : State :=
  State.raise { s.useTxAnswer with cur := some letter } (linkError (some letter) (.writeFailed cause))

theorem issue_done {s : State} (letter : Letter) (arg : Bytes) (hi : s.ps = .idle) (h : s.nextTxAnswer = .done) :
    issue letter arg s = .next (s.issued letter arg) := by
  simp [issue, hi, State.txWrite_done _ h, State.issued]

theorem issue_fail {s : State} (letter : Letter) (arg : Bytes) {cause : WriteCause} (hi : s.ps = .idle)
    (h : s.nextTxAnswer = .fail cause) : issue letter arg s = .next (s.issueFailed letter cause) := by
  simp [issue, hi, State.txWrite_fail _ h, State.issueFailed]

theorem issue_refused {s : State} (letter : Letter) (arg : Bytes) (hi : s.ps ≠ .idle) :
    issue letter arg s = .refused .issueOutsideIdle := by
  simp [issue, hi]

/-- Everything a command issue can do that answers a next state. -/
theorem issue_next {s t : State} {letter : Letter} {arg : Bytes} (h : issue letter arg s = .next t) :
    s.ps = .idle ∧
      ((s.nextTxAnswer = .done ∧ t = s.issued letter arg) ∨
        ∃ cause, s.nextTxAnswer = .fail cause ∧ t = s.issueFailed letter cause) := by
  by_cases hi : s.ps = .idle
  · refine ⟨hi, ?_⟩
    cases ha : s.nextTxAnswer with
    | done => rw [issue_done letter arg hi ha] at h; exact .inl ⟨rfl, by cases h; rfl⟩
    | fail cause => rw [issue_fail letter arg hi ha] at h; exact .inr ⟨cause, rfl, by cases h; rfl⟩
  · rw [issue_refused letter arg hi] at h; cases h

theorem issueW_some {s : State} {i : BitVec 16} {d : Byte} (h : s.memRead i = some d) :
    issueW i s = issue .w (wArg i d) s := by
  simp [issueW, h, execW]

/-- Everything the issue of a `W` for an image byte can do that answers a next state. -/
theorem issueW_next {s t : State} {i : BitVec 16} (h : issueW i s = .next t) :
    ∃ d, s.memRead i = some d ∧ s.ps = .idle ∧
      ((s.nextTxAnswer = .done ∧ t = s.issued .w (wArg i d)) ∨
        ∃ cause, s.nextTxAnswer = .fail cause ∧ t = s.issueFailed .w cause) := by
  cases hd : s.memRead i with
  | none => simp [issueW, hd] at h
  | some d => rw [issueW_some hd] at h; exact ⟨d, rfl, issue_next h⟩

@[simp] theorem linkError_h (cause : LinkCause) : linkError (some .h) cause = .connectionError (.link cause) := rfl

theorem linkError_other {cur : Option Letter} (cause : LinkCause) (h : cur ≠ some .h) :
    linkError cur cause = .transportError cause := by
  simp [linkError, h]

theorem State.searching_iff (s : State) : s.searching = true ↔ s.ps = .commandSent ∨ s.ps = .draining := by
  simp [State.searching]

theorem State.inHandshake_iff (s : State) : s.inHandshake = true ↔ s.ps = .commandSent ∧ s.cur = some .h := by
  simp [State.inHandshake]

theorem State.drainCommand_some {s : State} {op : Letter} (hs : s.searching = true) (hc : s.cur = some op) (ho : op ≠ .h) :
    s.drainCommand = some op := by
  cases op <;> simp_all [State.drainCommand]

/-- A command is being drained exactly when it is in flight and not `H` (R156). -/
theorem State.drainCommand_eq_some {s : State} {op : Letter} :
    s.drainCommand = some op ↔ s.searching = true ∧ s.cur = some op ∧ op ≠ .h := by
  refine ⟨fun h => ?_, fun ⟨h1, h2, h3⟩ => State.drainCommand_some h1 h2 h3⟩
  cases hs : s.searching with
  | false => simp [State.drainCommand, hs] at h
  | true =>
    cases hc : s.cur with
    | none => simp [State.drainCommand, hs, hc] at h
    | some x => cases x <;> simp [State.drainCommand, hs, hc] at h <;> subst h <;> simp

theorem State.moreImage_iff (s : State) : s.moreImage = true ↔ s.wrIdx.toNat + 1 < s.img.length := by
  simp [State.moreImage]

end Sys2Proof.Machine
end

