-- ==== Sys2Proof/Laws/PerInstr.lean ====
section
/-! SUPPORT. What is said of every instruction, one lemma per constructor. `EncodingShape`: the bytes of a well-formed instruction
have the shape of its level (30_encoding.md R82, R83, R86, R90, R92). -/

namespace Sys2Proof.Laws.EncodingShape

open Sys2Proof

/-- The bytes have the shape of the level: one received byte; the frame of a letter, with a 3-byte argument for `W` and none for
the others; a payload without a marker; no bytes for a request. -/
def HasShape : Level → Bytes → Prop
  | .rxByte, bytes => bytes.length = 1
  | .cmd, bytes => ∃ letter arg, bytes = frame letter arg ∧ arg.length = (if letter = .w then 3 else 0)
  | .rspHandshake, bytes | .rspDrain, bytes => noMarker bytes = true
  | .req, _ => False

/-- The statement, of one instruction. -/
def Statement (i : Instr) : Prop := ∀ bytes, i.WellFormed → encode i = some bytes → HasShape i.level bytes

theorem sof : Statement .sof := fun _ _ h => by cases h; rfl

theorem eof : Statement .eof := fun _ _ h => by cases h; rfl

theorem data (b : Byte) : Statement (.data b) := fun _ _ h => by cases h; rfl

theorem h : Statement .h := fun _ _ h => by cases h; exact ⟨.h, [], rfl, rfl⟩

theorem r : Statement .r := fun _ _ h => by cases h; exact ⟨.r, [], rfl, rfl⟩

theorem c : Statement .c := fun _ _ h => by cases h; exact ⟨.c, [], rfl, rfl⟩

theorem l : Statement .l := fun _ _ h => by cases h; exact ⟨.l, [], rfl, rfl⟩

theorem u : Statement .u := fun _ _ h => by cases h; exact ⟨.u, [], rfl, rfl⟩

theorem w (a : Addr) (d : Byte) : Statement (.w a d) := fun _ _ h => by cases h; exact ⟨.w, wArg a d, rfl, rfl⟩

theorem hello : Statement .hello := fun _ _ h => by cases h; rfl

theorem other (p : Bytes) : Statement (.other p) := fun _ hw h => by
  cases h
  simp only [Instr.WellFormed, Instr.wellFormed, Bool.and_eq_true] at hw
  exact hw.1

theorem ok : Statement .ok := fun _ _ h => by cases h; rfl

theorem error : Statement .error := fun _ _ h => by cases h; rfl

theorem invalid (p : Bytes) : Statement (.invalid p) := fun _ hw h => by
  cases h
  simp only [Instr.WellFormed, Instr.wellFormed, Bool.and_eq_true] at hw
  exact hw.1.1.1

theorem record (a d : Bytes) : Statement (.record a d) := fun _ hw h => by
  cases h
  simp only [Instr.WellFormed, Instr.wellFormed, Bool.and_eq_true] at hw
  obtain ⟨⟨⟨ha, hd⟩, -⟩, -⟩ := hw
  show noMarker (a ++ [Config.SEP] ++ d) = true
  simp [ha, hd, isMarker, Config.SEP, Config.SOF, Config.EOF]

theorem start : Statement .start := fun _ _ h => by cases h

theorem checkConnection : Statement .checkConnection := fun _ _ h => by cases h

theorem read : Statement .read := fun _ _ h => by cases h

theorem write (image : Bytes) : Statement (.write image) := fun _ _ h => by cases h

theorem clear : Statement .clear := fun _ _ h => by cases h

theorem lock : Statement .lock := fun _ _ h => by cases h

theorem unlock : Statement .unlock := fun _ _ h => by cases h

theorem shutdown : Statement .shutdown := fun _ _ h => by cases h

end Sys2Proof.Laws.EncodingShape
end

