-- ==== Sys2Proof/Laws/Step.lean ====
section
/-! SUPPORT. Everything one step can do, said once: `step_moved` is the inversion from which every fact about a step follows by
cases. -/

namespace Sys2Proof.Machine

open Host (Outcome)

/-- The letter a request issues and whether it needs the handshake first (R141, R176 to R179). -/
def requestLetter : Request → Option (Letter × Bool)
  | .checkConnection => some (.h, false)
  | .read => some (.r, true)
  | .clear => some (.c, true)
  | .lock => some (.l, true)
  | .unlock => some (.u, true)
  | .start | .write _ | .shutdown => none

/-- Why a request is refused (R221). -/
def State.refusalOf (s : State) : Request → Option Reason
  | .start => s.startRefusal
  | .checkConnection => s.checkRefusal
  | .read | .clear | .lock | .unlock => s.operationRefusal
  | .write image => s.writeRefusal image
  | .shutdown => s.shutdownRefusal

/-- What a request that answers a next state does in state `u`. -/
inductive RequestMoved (u : State) : Request → State → Prop
  | refused {r reason} (h : u.refusalOf r = some reason) : RequestMoved u r (u.refuse reason)
  | started (h : u.ps = .unstarted) :
      RequestMoved u .start (State.report { u.rxFlush with inside := false, acc := [], ps := .idle } .success)
  | issued {r letter needs} (hr : requestLetter r = some (letter, needs)) (hi : u.ps = .idle) (hh : needs = true → u.hs = true)
      (ha : u.nextTxAnswer = .done) : RequestMoved u r (u.issued letter [])
  | issueFailed {r letter needs cause} (hr : requestLetter r = some (letter, needs)) (hi : u.ps = .idle)
      (hh : needs = true → u.hs = true) (ha : u.nextTxAnswer = .fail cause) : RequestMoved u r (u.issueFailed letter cause)
  | wroteNothing (hi : u.ps = .idle) (hh : u.hs = true) :
      RequestMoved u (.write []) (State.report { u with img := [], wrIdx := 0#16 } .success)
  | writeIssued {d rest} (hi : u.ps = .idle) (hh : u.hs = true) (hl : (d :: rest).length ≤ Config.imageMax)
      (ha : u.nextTxAnswer = .done) :
      RequestMoved u (.write (d :: rest)) (State.issued { u with img := d :: rest, wrIdx := 0#16 } .w (wArg 0#16 d))
  | writeFailed {d rest cause} (hi : u.ps = .idle) (hh : u.hs = true) (hl : (d :: rest).length ≤ Config.imageMax)
      (ha : u.nextTxAnswer = .fail cause) :
      RequestMoved u (.write (d :: rest)) (State.issueFailed { u with img := d :: rest, wrIdx := 0#16 } .w cause)
  | closed (h : u.ps = .unstarted ∨ u.ps = .idle ∨ u.ps = .failed) :
      RequestMoved u .shutdown (State.report { u with ps := .closed } .success)

/-- What a delivered payload does in state `v` (the scanner already outside a frame). -/
inductive PayloadMoved (v : State) : Bytes → State → Prop
  | hello (hp : v.ps = .commandSent) (hc : v.cur = some .h) :
      PayloadMoved v Config.helloText (State.report { v with hs := true, ps := .idle } .success)
  | other {p} (hp : v.ps = .commandSent) (hc : v.cur = some .h) (h : p ≠ Config.helloText) :
      PayloadMoved v p (v.raise (.connectionError (.badPayload p)))
  | okEnds {op} (hs : v.searching = true) (hc : v.cur = some op) (ho : op ≠ .h) (hm : ¬ (op = .w ∧ v.moreImage = true)) :
      PayloadMoved v Config.okText (State.report { v with ps := .idle } .success)
  | okNext {d} (hs : v.searching = true) (hc : v.cur = some .w) (hm : v.moreImage = true)
      (hd : v.memRead v.nextIdx = some d) (ha : v.nextTxAnswer = .done) :
      PayloadMoved v Config.okText (State.issued { v with ps := .idle, wrIdx := v.nextIdx } .w (wArg v.nextIdx d))
  | okNextFailed {cause} (hs : v.searching = true) (hc : v.cur = some .w) (hm : v.moreImage = true)
      (ha : v.nextTxAnswer = .fail cause) :
      PayloadMoved v Config.okText (State.issueFailed { v with ps := .idle, wrIdx := v.nextIdx } .w cause)
  | error {op} (hs : v.searching = true) (hc : v.cur = some op) (ho : op ≠ .h) :
      PayloadMoved v Config.errorText (v.raise .deviceError)
  | invalid {op p} (hs : v.searching = true) (hc : v.cur = some op) (ho : op ≠ .h) (h1 : p ≠ Config.okText)
      (h2 : p ≠ Config.errorText) (h3 : p.count Config.SEP ≠ 1) : PayloadMoved v p (v.raise (.invalidResponseError p))
  | record {op a d} (hs : v.searching = true) (hc : v.cur = some op) (ho : op ≠ .h) (ha : Config.SEP ∉ a)
      (hd : Config.SEP ∉ d) :
      PayloadMoved v (a ++ Config.SEP :: d)
        { v.sinkEmit (recordText v.params op v.pos a d) with pos := nextPos v.pos, ps := .draining }

/-- What a received byte does in state `v` (the byte already consumed). -/
inductive ByteMoved (v : State) : Byte → State → Prop
  | sof : ByteMoved v Config.SOF { v with inside := true, acc := [] }
  | discarded {b} (hi : v.inside = false) (hb : b ≠ Config.SOF) : ByteMoved v b v
  | accumulated {b} (hi : v.inside = true) (hb : isMarker b = false) (hf : v.accFull = false) :
      ByteMoved v b { v with acc := v.acc ++ [b] }
  | overflowed {b} (hi : v.inside = true) (hb : isMarker b = false) (hf : v.accFull = true) :
      ByteMoved v b (v.raise (linkError v.cur .overflow))
  | delivered {t} (hi : v.inside = true) (h : PayloadMoved { v with inside := false, acc := [] } v.acc t) :
      ByteMoved v Config.EOF t

/-- What one step does. -/
inductive Moved (s : State) : State → Prop
  | passes (h : s.nextTurn = .rxByte ∨ ∃ cause, s.nextTurn = .rxFail cause) : Moved s s.useTurn
  | reset (h : s.nextTurn = .reset) : Moved s s.useTurn.resetInput
  | arrived {bytes} (h : s.nextTurn = .arrive bytes) : Moved s (s.useTurn.rxAppend bytes)
  | readFailed {cause} (h : s.nextTurn = .rxFail cause) (hs : s.searching = true) (hm : s.mayFail cause = true) :
      Moved s (s.useTurn.readFailed cause)
  | requested {r t} (h : s.nextTurn = .request r) (hm : RequestMoved s.useTurn r t) : Moved s t
  | received {b rest t} (h : s.nextTurn = .rxByte) (hs : s.searching = true) (hq : s.rxq = b :: rest)
      (hm : ByteMoved { s.useTurn with rxq := rest } b t) : Moved s t

@[simp] theorem State.useTurn_searching (s : State) : s.useTurn.searching = s.searching := rfl

/-- The four operations without an operand. -/
theorem operation_moved {u t : State} {r : Request} {letter : Letter} (hr : requestLetter r = some (letter, true))
    (href : u.refusalOf r = u.operationRefusal)
    (h : (match u.operationRefusal with
      | some reason => Outcome.next (u.refuse reason)
      | none => issue letter [] u) = .next t) : RequestMoved u r t := by
  cases hg : u.operationRefusal with
  | some reason => simp only [hg] at h; cases h; exact .refused (href.trans hg)
  | none =>
    simp only [hg] at h
    have hh : u.hs = true := by
      unfold State.operationRefusal at hg
      split at hg <;> try cases hg
      split at hg <;> first | assumption | cases hg
    obtain ⟨hi, ⟨ha, rfl⟩ | ⟨cause, ha, rfl⟩⟩ := issue_next h
    · exact .issued hr hi (fun _ => hh) ha
    · exact .issueFailed hr hi (fun _ => hh) ha

/-- Everything a request can do that answers a next state. -/
theorem request_moved {u t : State} {r : Request} (h : exec (decodeRequest r) u = .next t) : RequestMoved u r t := by
  cases r with
  | start =>
    simp only [decodeRequest, exec, execStart] at h
    cases hg : u.startRefusal with
    | some reason => simp only [hg] at h; cases h; exact .refused hg
    | none =>
      simp only [hg] at h; cases h
      refine .started ?_
      unfold State.startRefusal at hg
      split at hg <;> first | assumption | cases hg
  | checkConnection =>
    simp only [decodeRequest, exec, execCheckConnection, execH] at h
    cases hg : u.checkRefusal with
    | some reason => simp only [hg] at h; cases h; exact .refused hg
    | none =>
      simp only [hg] at h
      obtain ⟨hi, ⟨ha, rfl⟩ | ⟨cause, ha, rfl⟩⟩ := issue_next h
      · exact .issued (letter := .h) rfl hi (by simp) ha
      · exact .issueFailed (letter := .h) rfl hi (by simp) ha
  | read => exact operation_moved (letter := .r) rfl rfl h
  | clear => exact operation_moved (letter := .c) rfl rfl h
  | lock => exact operation_moved (letter := .l) rfl rfl h
  | unlock => exact operation_moved (letter := .u) rfl rfl h
  | write image =>
    simp only [decodeRequest, exec, execWrite] at h
    cases hg : u.writeRefusal image with
    | some reason => simp only [hg] at h; cases h; exact .refused hg
    | none =>
      simp only [hg] at h
      have hh : u.ps = .idle ∧ u.hs = true ∧ image.length ≤ Config.imageMax := by
        unfold State.writeRefusal at hg
        split at hg <;> try cases hg
        split at hg <;> try cases hg
        split at hg <;> try cases hg
        exact ⟨by assumption, by assumption, by omega⟩
      cases image with
      | nil => simp at h; cases h; exact .wroteNothing hh.1 hh.2.1
      | cons d rest =>
        simp only [List.isEmpty_cons, Bool.false_eq_true, if_false] at h
        obtain ⟨d', hd, -, ⟨ha, rfl⟩ | ⟨cause, ha, rfl⟩⟩ := issueW_next h
        · have : d' = d := by simpa [State.memRead] using hd.symm
          subst this
          exact .writeIssued hh.1 hh.2.1 hh.2.2 ha
        · exact .writeFailed hh.1 hh.2.1 hh.2.2 ha
  | shutdown =>
    simp only [decodeRequest, exec, execShutdown] at h
    cases hg : u.shutdownRefusal with
    | some reason => simp only [hg] at h; cases h; exact .refused hg
    | none =>
      simp only [hg] at h; cases h
      refine .closed ?_
      unfold State.shutdownRefusal at hg
      split at hg <;> simp_all

/-- Everything a delivered payload can do that answers a next state. -/
theorem payload_moved {v t : State} {p : Bytes} (h : deliver p v = .next t) : PayloadMoved v p t := by
  unfold deliver at h
  by_cases hc : v.cur = some .h
  · simp only [hc, if_true] at h
    by_cases hp : p = Config.helloText
    · subst hp
      simp only [classifyHs, if_true, execHello] at h
      split at h
      · rename_i hg; cases h; exact .hello ((State.inHandshake_iff v).mp hg).1 hc
      · cases h
    · simp only [classifyHs, hp, if_false, execOther] at h
      split at h
      · rename_i hg; cases h; exact .other ((State.inHandshake_iff v).mp hg).1 hc hp
      · cases h
  · simp only [hc, if_false] at h
    cases hop : v.drainCommand with
    | none =>
      obtain ⟨-, e⟩ | ⟨-, e⟩ | ⟨-, -, -, e⟩ | ⟨a, d, -, -, -, e⟩ := classifyDrain_cases p <;>
        simp [e, execOk, execError, execInvalid, execRecord, hop] at h
    | some op =>
      obtain ⟨hs, hcur, ho⟩ := State.drainCommand_eq_some.mp hop
      obtain ⟨rfl, e⟩ | ⟨rfl, e⟩ | ⟨h1, h2, h3, e⟩ | ⟨a, d, rfl, ha, hd, e⟩ := classifyDrain_cases p
      · simp only [e, execOk, hop] at h
        split at h
        · rename_i hm
          obtain ⟨rfl, hm⟩ := hm
          obtain ⟨d, hd, -, ⟨ha, rfl⟩ | ⟨cause, ha, rfl⟩⟩ := issueW_next h
          · exact .okNext hs hcur hm hd ha
          · exact .okNextFailed hs hcur hm ha
        · rename_i hm; cases h; exact .okEnds hs hcur ho hm
      · simp only [e, execError, hop] at h; cases h; exact .error hs hcur ho
      · simp only [e, execInvalid, hop] at h; cases h; exact .invalid hs hcur ho h1 h2 h3
      · simp only [e, execRecord, hop] at h; cases h; exact .record hs hcur ho ha hd

/-- Everything a received byte can do that answers a next state. -/
theorem byte_moved {v t : State} {b : Byte} (h : exec (decodeByte b) v = .next t) : ByteMoved v b t := by
  obtain ⟨rfl, e⟩ | ⟨rfl, e⟩ | ⟨hb, e⟩ := decodeByte_cases b <;> rw [e] at h
  · simp only [exec, execSof] at h; cases h; exact .sof
  · simp only [exec, execEof] at h
    cases hi : v.inside with
    | true => simp only [hi, if_true] at h; exact .delivered hi (payload_moved h)
    | false => simp only [hi, Bool.false_eq_true, if_false] at h; cases h; exact .discarded hi (by decide)
  · simp only [exec, execData] at h
    cases hi : v.inside with
    | true =>
      rw [if_pos hi] at h
      cases hf : v.accFull with
      | true => rw [if_pos hf] at h; cases h; exact .overflowed hi hb hf
      | false => rw [if_neg (by simp [hf])] at h; cases h; exact .accumulated hi hb hf
    | false =>
      rw [if_neg (by simp [hi])] at h; cases h
      exact .discarded hi (isMarker_false hb).1

theorem step_request {s : State} {r : Request} (h : s.nextTurn = .request r) :
    step s = exec (decodeRequest r) s.useTurn := by
  simp [step, State.fetch, h]

theorem step_rxByte {s : State} {b : Byte} {rest : Bytes} (h : s.nextTurn = .rxByte) (hs : s.searching = true)
    (hq : s.rxq = b :: rest) : step s = exec (decodeByte b) { s.useTurn with rxq := rest } := by
  have : s.useTurn.rxRead = some (b, { s.useTurn with rxq := rest }) := State.rxRead_cons hq
  simp [step, State.fetch, h, hs, this]

/-- Everything a step can do that answers a next state. -/
theorem step_moved {s t : State} (h : step s = .next t) : Moved s t := by
  cases ht : s.nextTurn with
  | request r => rw [step_request ht] at h; exact .requested ht (request_moved h)
  | reset => simp [step, State.fetch, State.environment, ht] at h; cases h; exact .reset ht
  | arrive bytes => simp [step, State.fetch, State.environment, ht] at h; cases h; exact .arrived ht
  | rxFail cause =>
    simp only [step, State.fetch, State.environment, ht] at h
    split at h <;> cases h
    · rename_i hg
      obtain ⟨hs, hm⟩ : s.searching = true ∧ s.mayFail cause = true := by simpa using hg
      exact .readFailed ht hs hm
    · exact .passes (.inr ⟨cause, ht⟩)
  | rxByte =>
    cases hs : s.searching with
    | false => simp [step, State.fetch, State.environment, ht, hs] at h; cases h; exact .passes (.inl ht)
    | true =>
      cases hq : s.rxq with
      | nil =>
        have : s.useTurn.rxRead = none := State.rxRead_nil hq
        simp [step, State.fetch, State.environment, ht, hs, this] at h; cases h; exact .passes (.inl ht)
      | cons b rest => rw [step_rxByte ht hs hq] at h; exact .received ht hs hq (byte_moved h)

end Sys2Proof.Machine
end

