-- ==== Sys2Proof/Laws/Run.lean ====
section
/-! SUPPORT. Runs of several steps: how they start, how they chain, and that they are the host's runs. -/

namespace Sys2Proof.Machine

theorem run_zero (s : State) : run 0 s = .next s := rfl

/-- The first step of a run that goes on. -/
theorem run_succ_of_next {s t : State} (k : Nat) (h : step s = .next t) : run (k + 1) s = run k t := by
  simp [run, h]

theorem run_succ_of_fault {s : State} {r : Fault} (k : Nat) (h : step s = .fault r) : run (k + 1) s = .fault r := by
  simp [run, h]

theorem run_succ_of_refused {s : State} {r : Refusal} (k : Nat) (h : step s = .refused r) :
    run (k + 1) s = .refused r := by
  simp [run, h]

/-- A run that ends with its first stop. -/
theorem run_one (s : State) : run 1 s = step s := by
  unfold run
  cases step s <;> rfl

/-- Runs chain. -/
theorem run_add {k : Nat} {s t : State} (m : Nat) (h : run k s = .next t) : run (k + m) s = run m t := by
  induction k generalizing s with
  | zero => cases h; simp
  | succ k ih =>
    cases hs : step s with
    | next s' =>
      rw [run_succ_of_next k hs] at h
      rw [show k + 1 + m = (k + m) + 1 by omega, run_succ_of_next _ hs, ih h]
    | fault r => simp [run, hs] at h
    | refused r => simp [run, hs] at h

/-- The first step of a host's run, by its outcome. -/
theorem core_run_succ (M : Host.Core) (k : Nat) (s : M.State) :
    (∀ t, M.step s = .next t → M.run (k + 1) s = M.run k t) ∧ (∀ r, M.step s = .fault r → M.run (k + 1) s = .fault r) ∧
      (∀ r, M.step s = .refused r → M.run (k + 1) s = .refused r) := by
  refine ⟨fun t h => ?_, fun r h => ?_, fun r h => ?_⟩ <;> rw [Host.Core.run, h]

/-- `run` is the host's run of this machine. -/
theorem run_eq_core (k : Nat) (s : State) : Sys2Proof.core.run k s = run k s := by
  induction k generalizing s with
  | zero => rfl
  | succ k ih =>
    obtain ⟨h1, h2, h3⟩ := core_run_succ Sys2Proof.core k s
    cases h : step s with
    | next t => exact (h1 t h).trans ((ih t).trans (run_succ_of_next k h).symm)
    | fault r => exact (h2 r h).trans (run_succ_of_fault k h).symm
    | refused r => exact (h3 r h).trans (run_succ_of_refused k h).symm

/-- One step of a frame search: the scheduled read of the byte at the head of the link queue. -/
theorem step_scheduled_read {s : State} {b : Byte} {rest : Bytes} {later : List Turn} (hs : s.searching = true)
    (hq : s.rxq = b :: rest) (hl : s.sched = .rxByte :: later) :
    step s = exec (decodeByte b) { s with rxq := rest, sched := later } := by
  rw [step_rxByte (by simp [State.nextTurn, hl]) hs hq]
  simp [State.useTurn, hl]

end Sys2Proof.Machine
end

