-- ==== Sys2Proof/Tests/Slice0.lean ====
section
/-! SUPPORT. The tests: expected results from spec/95_test_vectors.md (S and V numbers) and from the rules, one step each; the
refusals of `WellFormed`; words written out from the encodings; and a witness for the hypotheses of every statement. -/

namespace Sys2Proof.Tests

open Sys2Proof.Machine Sys2Proof.Statements

/-- The state a step answers, if it answers one. -/
def after (o : Host.Outcome State Fault Refusal) : Option State :=
  match o with
  | .next s => some s
  | .fault _ | .refused _ => none

/-- The name of a refusal, if the step is refused. -/
def refusedAs (o : Host.Outcome State Fault Refusal) : Option Refusal :=
  match o with
  | .refused r => some r
  | .next _ | .fault _ => none

/-- The state after the prologue of 95_test_vectors.md, with the turns and one answer to come. -/
def ready (turns : List Turn) (answer : TxAnswer) : State :=
  { State.reset with
    ps := .idle, cur := some .h, hs := true, tx := [[0x3C#8, 0x48#8, 0x3D#8]], results := [.success, .success]
    sched := turns, txAnswers := [answer] }

/-- The prologue state in which a command has been written and bytes of its response wait. -/
def sent (op : Letter) (bytes : Bytes) (turns : List Turn) : State :=
  { State.reset with
    ps := .commandSent, cur := some op, hs := true, rxq := bytes, sched := turns, txAnswers := [.done]
    tx := [[0x3C#8, 0x48#8, 0x3D#8], [0x3C#8, op.code, 0x3D#8]], results := [.success, .success] }

/-- The state after `START`, with the turns and one answer to come. -/
def started (turns : List Turn) (answer : TxAnswer) : State :=
  { State.reset with ps := .idle, results := [.success], sched := turns, txAnswers := [answer] }

/-- The same after `CHECK_CONNECTION`, with bytes of the response on the link. -/
def handshaking (bytes : Bytes) (turns : List Turn) : State :=
  { State.reset with
    ps := .commandSent, cur := some .h, tx := [[0x3C#8, 0x48#8, 0x3D#8]], results := [.success], rxq := bytes, sched := turns }

/-- A `WRITE` of two bytes, byte 0 acknowledged up to the end marker of its `OK`, the next frame write answered as given. -/
def writing (answer : TxAnswer) : State :=
  { sent .w [0x3D#8] [.rxByte] with
    inside := true, acc := [0x4F#8, 0x4B#8], img := [0xDE#8, 0xAD#8], txAnswers := [answer] }

/-- An image of a given length. -/
theorem exists_image (n : Nat) : ∃ image : Bytes, image.length = n + 1 ∧ image.head? = some 0x00#8 ∧ image[n]? = some 0x00#8 :=
  ⟨List.replicate (n + 1) 0x00#8, List.length_replicate, rfl, List.getElem?_replicate_of_lt (Nat.lt_succ_self n)⟩

/-! ## WellFormed refuses -/

theorem test_illformed_data_marker : ¬ (Instr.data 0x3C#8).WellFormed ∧ ¬ (Instr.data 0x3D#8).WellFormed := by decide
theorem test_illformed_other_hello : ¬ (Instr.other [0x48#8, 0x45#8, 0x4C#8, 0x4C#8, 0x4F#8]).WellFormed := by decide
theorem test_illformed_other_marker : ¬ (Instr.other [0x41#8, 0x3D#8]).WellFormed := by decide
theorem test_illformed_invalid_marker : ¬ (Instr.invalid [0x3C#8]).WellFormed := by decide
theorem test_illformed_invalid_sentinel :
    ¬ (Instr.invalid [0x4F#8, 0x4B#8]).WellFormed ∧
      ¬ (Instr.invalid [0x45#8, 0x52#8, 0x52#8, 0x4F#8, 0x52#8]).WellFormed := by decide
theorem test_illformed_invalid_record : ¬ (Instr.invalid [0x33#8, 0x3A#8, 0x41#8]).WellFormed := by decide
theorem test_illformed_record_marker :
    ¬ (Instr.record [0x3C#8] []).WellFormed ∧ ¬ (Instr.record [] [0x3D#8]).WellFormed := by decide
theorem test_illformed_record_separator :
    ¬ (Instr.record [0x3A#8] []).WellFormed ∧ ¬ (Instr.record [] [0x3A#8]).WellFormed := by decide

/-! ## Decoding: words written out bit by bit from 30_encoding.md R82 to R88 -/

theorem test_decode_sof : decodeTableWord 8 0b00111100 = some .sof := by decide
theorem test_decode_eof : decodeTableWord 8 0b00111101 = some .eof := by decide
theorem test_decode_data : decodeTableWord 8 0b00111010 = some (.data 0x3A#8) := by decide
theorem test_decode_h : decodeTableWord 24 0b001111000100100000111101 = some .h := by decide
theorem test_decode_r : decodeTableWord 24 0b001111000101001000111101 = some .r := by decide
theorem test_decode_c : decodeTableWord 24 0b001111000100001100111101 = some .c := by decide
theorem test_decode_l : decodeTableWord 24 0b001111000100110000111101 = some .l := by decide
theorem test_decode_u : decodeTableWord 24 0b001111000101010100111101 = some .u := by decide
/-- S14. -/
theorem test_decode_w : decodeTableWord 48 0b001111000101011100010010001101000101011000111101 =
    some (.w 0x1234#16 0x56#8) := by decide
/-- V45: a marker in the argument is read as the argument. -/
theorem test_decode_w_marker : decodeTableWord 48 0x3C57003D003D = some (.w 0x003D#16 0x00#8) := by decide
theorem test_decode_hello : decodeTableWord 40 0b0100100001000101010011000100110001001111 = some .hello := by decide
theorem test_decode_ok : decodeTableWord 16 0b0100111101001011 = some .ok := by decide
theorem test_decode_error : decodeTableWord 40 0b0100010101010010010100100100111101010010 = some .error := by decide
/-- V29, V27, V30. -/
theorem test_decode_drain : decodeTableWord 24 0x33463A = some (.record [0x33#8, 0x46#8] []) ∧
    decodeTableWord 16 0x3A3A = some (.invalid [0x3A#8, 0x3A#8]) ∧
    decodeTableWord 32 0x4F4B3A31 = some (.record [0x4F#8, 0x4B#8] [0x31#8]) := by decide
/-- V19, V21, S5. -/
theorem test_decode_context : decodeHs [0x4F#8, 0x4B#8] = .other [0x4F#8, 0x4B#8] ∧
    decodeDrain Config.helloText = .invalid Config.helloText ∧
    decodeHs [0x48#8, 0x45#8, 0x4C#8, 0x4C#8, 0x4F#8, 0x21#8] = .other [0x48#8, 0x45#8, 0x4C#8, 0x4C#8, 0x4F#8, 0x21#8] := by
  decide
theorem test_decode_request : decodeRequest (.write [0xA5#8]) = .write [0xA5#8] ∧ decodeRequest .lock = .lock ∧
    decodeRequest .unlock = .unlock ∧ decodeRequest .clear = .clear := by decide
/-- R89, R135: an unknown letter, a missing or surplus argument, a missing marker. -/
theorem test_decode_rejects :
    decode .cmd [0x3C#8, 0x41#8, 0x3D#8] = .error .unknownLetter ∧ decode .cmd [0x3C#8, 0x57#8, 0x3D#8] = .error .wrongLength ∧
    decode .cmd [0x3C#8, 0x52#8, 0x00#8, 0x00#8, 0x00#8, 0x3D#8] = .error .wrongLength ∧
    decode .cmd [0x3C#8, 0x52#8, 0x3C#8] = .error .missingMarker ∧ decode .rspDrain [0x3D#8] = .error .markerInPayload ∧
    decode .rxByte [] = .error .notOneByte ∧ decode .req [0x48#8] = .error .requestHasNoEncoding :=
  ⟨rfl, rfl, rfl, rfl, rfl, rfl, rfl⟩

/-! ## A table word placed after reset is run by the next step -/

theorem test_fetch_sof : (after (step (State.reset.withFetchWord 8 0x3C))).map (fun t => (t.inside, t.rxq)) = some (true, []) := by
  decide
theorem test_fetch_eof : (after (step (State.reset.withFetchWord 8 0x3D))).map (fun t => (t.inside, t.rxq)) =
    some (false, []) := by decide
theorem test_fetch_h : (after (step (State.reset.withFetchWord 24 0x3C483D))).map (fun t => (t.tx, t.cur)) =
    some ([[0x3C#8, 0x48#8, 0x3D#8]], some .h) := by decide
theorem test_fetch_w : (after (step (State.reset.withFetchWord 48 0x3C570002563D))).map (fun t => (t.tx, t.wrIdx)) =
    some ([[0x3C#8, 0x57#8, 0x00#8, 0x02#8, 0x56#8, 0x3D#8]], 2#16) := by decide
theorem test_fetch_w_first : (after (step (State.reset.withFetchWord 48 0x3C570000A53D))).map (fun t => (t.tx, t.img)) =
    some ([[0x3C#8, 0x57#8, 0x00#8, 0x00#8, 0xA5#8, 0x3D#8]], [0xA5#8]) := by decide
theorem test_fetch_hello : (after (step (State.reset.withFetchWord 40 0x48454C4C4F))).map (fun t => (t.hs, t.ps)) =
    some (true, .idle) := by decide
theorem test_fetch_ok : (after (step (State.reset.withFetchWord 16 0x4F4B))).map (fun t => (t.results, t.ps)) =
    some ([.success], .idle) := by decide
theorem test_fetch_error : (after (step (State.reset.withFetchWord 40 0x4552524F52))).map (fun t => (t.err, t.ps)) =
    some (some .deviceError, .failed) := by decide

/-! ## Received bytes (V1 to V10, V18) -/

/-- V2. -/
theorem test_sof_restarts : (after (exec .sof { State.reset with inside := true, acc := [0x45#8, 0x52#8] })).map
    (fun t => (t.inside, t.acc)) = some (true, []) := by decide
/-- V5. -/
theorem test_eof_outside : after (exec .eof (sent .r [] [])) = some (sent .r [] []) := by decide
/-- S6, V4: the empty frame is delivered in the handshake. -/
theorem test_eof_empty_frame : (after (exec .eof { handshaking [] [] with inside := true })).map (fun t => (t.inside, t.err)) =
    some (false, some (.connectionError (.badPayload []))) := by decide
/-- V6. -/
theorem test_data_accumulates : (after (exec (.data 0x46#8) { State.reset with inside := true, acc := [0x33#8] })).map
    (fun t => t.acc) = some [0x33#8, 0x46#8] := by decide
/-- V18. -/
theorem test_data_overflow : (after (exec (.data 0x45#8)
    { sent .r [] [] with
      inside := true, acc := [0x41#8, 0x42#8, 0x43#8, 0x44#8], params := { Params.default with payloadMax := some 4 } })).map
    (fun t => (t.err, t.acc)) = some (some (.transportError .overflow), [0x41#8, 0x42#8, 0x43#8, 0x44#8]) := by decide

/-! ## Command frames (V35 to V50) -/

/-- V35. -/
theorem test_h_frame : (after (exec .h (started [] .done))).map (fun t => (t.tx, t.ps)) =
    some ([[0x3C#8, 0x48#8, 0x3D#8]], .commandSent) := by decide
/-- V36. -/
theorem test_r_frame : (after (exec .r (started [] .done))).map (fun t => (t.tx, t.cur)) =
    some ([[0x3C#8, 0x52#8, 0x3D#8]], some .r) := by decide
/-- V37. -/
theorem test_c_frame : (after (exec .c (started [] .done))).map (fun t => (t.tx, t.cur)) =
    some ([[0x3C#8, 0x43#8, 0x3D#8]], some .c) := by decide
/-- V38. -/
theorem test_l_frame : (after (exec .l (started [] .done))).map (fun t => (t.tx, t.cur)) =
    some ([[0x3C#8, 0x4C#8, 0x3D#8]], some .l) := by decide
/-- V39. -/
theorem test_u_frame : (after (exec .u (started [] .done))).map (fun t => (t.tx, t.cur)) =
    some ([[0x3C#8, 0x55#8, 0x3D#8]], some .u) := by decide
/-- V43: the carry into the high byte. -/
theorem test_w_frame : (after (exec (.w 0x0100#16 0x01#8) (started [] .done))).map (fun t => (t.tx, t.cur)) =
    some ([[0x3C#8, 0x57#8, 0x01#8, 0x00#8, 0x01#8, 0x3D#8]], some .w) := by decide
/-- V48: a marker in the address is written unchanged; the reset of the column counter (R131). -/
theorem test_w_frame_marker : (after (exec (.w 0x3C00#16 0x10#8) { started [] .done with pos := 5#4 })).map
    (fun t => (t.tx, t.pos)) = some ([[0x3C#8, 0x57#8, 0x3C#8, 0x00#8, 0x10#8, 0x3D#8]], 0#4) := by decide

/-! ## Response payloads -/

/-- S4, V58. -/
theorem test_hello : (after (exec .hello (handshaking [] []))).map (fun t => (t.hs, t.ps, t.results)) =
    some (true, .idle, [.success, .success]) := by decide
/-- V59: `hs` stays set. -/
theorem test_other : (after (exec (.other Config.errorText) (sent .h [] []))).map (fun t => (t.err, t.hs)) =
    some (some (.connectionError (.badPayload [0x45#8, 0x52#8, 0x52#8, 0x4F#8, 0x52#8])), true) := by decide
/-- V72. -/
theorem test_ok : (after (exec .ok (sent .c [] []))).map (fun t => (t.ps, t.results)) =
    some (.idle, [.success, .success, .success]) := by decide
/-- V79, V83: the end marker of byte 0's `OK` sends byte 1; when that write fails the index already names byte 1. -/
theorem test_ok_next : (after (step (writing .done))).map (fun t => (t.tx.getLast?, t.wrIdx)) =
      some (some [0x3C#8, 0x57#8, 0x00#8, 0x01#8, 0xAD#8, 0x3D#8], 1#16) ∧
    (after (step (writing (.fail .writeFailure)))).map (fun t => (t.tx, t.wrIdx, t.err)) =
      some ((writing .done).tx, 1#16, some (.transportError (.writeFailed .writeFailure))) := by decide
/-- V75. -/
theorem test_error : (after (exec .error (sent .u [] []))).map (fun t => (t.err, t.ps, t.cur)) =
    some (some .deviceError, .failed, some .u) := by decide
/-- S10: two separators, nothing printed. -/
theorem test_invalid : (after (step { sent .r [0x3D#8] [.rxByte] with
      inside := true, acc := [0x33#8, 0x46#8, 0x3A#8, 0x41#8, 0x42#8, 0x3A#8, 0x30#8, 0x30#8] })).map
    (fun t => (t.err, t.sink)) =
    some (some (.invalidResponseError [0x33#8, 0x46#8, 0x3A#8, 0x41#8, 0x42#8, 0x3A#8, 0x30#8, 0x30#8]), []) := by decide
/-- S8. -/
theorem test_record_first : (after (exec (.record [0x33#8, 0x46#8] [0x41#8, 0x42#8]) (sent .r [] []))).map
    (fun t => (t.sink, t.pos, t.ps)) =
    some ([0x0A#8, 0x33#8, 0x46#8, 0x3A#8, 0x20#8, 0x20#8, 0x41#8, 0x42#8], 1#4, .draining) := by decide
/-- V64, R165: the ninth record has the extra space, and the counter wraps after the sixteenth. -/
theorem test_record_columns :
    (after (exec (.record [0x38#8] [0x32#8, 0x35#8, 0x35#8]) { sent .c [] [] with ps := .draining, pos := 8#4 })).map
      (fun t => (t.sink, t.pos)) = some ([0x20#8, 0x20#8, 0x32#8, 0x35#8, 0x35#8], 9#4) ∧
    (after (exec (.record [] [0x41#8]) { sent .c [] [] with ps := .draining, pos := 15#4 })).map
      (fun t => (t.sink, t.pos)) = some ([0x20#8, 0x41#8], 0#4) := by decide

/-! ## Host requests -/

/-- V51. -/
theorem test_start : (after (step
    { State.reset with rxq := [0x4F#8, 0x4B#8, 0x3D#8, 0x3C#8, 0x41#8], sched := [.request .start] })).map
    (fun t => (t.rxq, t.ps, t.results)) = some ([], .idle, [.success]) := by decide
/-- V52. -/
theorem test_start_twice : (after (step (started [.request .start] .done))).map (fun t => (t.results, t.ps)) =
    some ([.success, .refused .alreadyStarted], .idle) := by decide
/-- V50. -/
theorem test_check_write_failure : (after (step (started [.request .checkConnection] (.fail .writeFailure)))).map
    (fun t => (t.err, t.cur, t.tx)) =
    some (some (.connectionError (.link (.writeFailed .writeFailure))), some .h, []) := by decide
/-- V87. -/
theorem test_check_not_started : (after (exec .checkConnection State.reset)).map (fun t => t.results) =
    some [.refused .notStarted] := by decide
/-- V49. -/
theorem test_read_write_failure : (after (step (ready [.request .read] (.fail .writeFailure)))).map
    (fun t => (t.err, t.cur, t.tx)) =
    some (some (.transportError (.writeFailed .writeFailure)), some .r, [[0x3C#8, 0x48#8, 0x3D#8]]) := by decide
/-- V71, V88. -/
theorem test_read : (after (step (ready [.request .read] .done))).map (fun t => t.tx) =
      some [[0x3C#8, 0x48#8, 0x3D#8], [0x3C#8, 0x52#8, 0x3D#8]] ∧
    (after (step (started [.request .read] .done))).map (fun t => (t.tx, t.results)) =
      some ([], [.success, .refused .notHandshaken]) := by decide
/-- V77: the empty image. -/
theorem test_write_empty : (after (step (ready [.request (.write [])] .done))).map (fun t => (t.tx, t.results.length, t.ps)) =
    some ([[0x3C#8, 0x48#8, 0x3D#8]], 3, .idle) := by decide
/-- V78. -/
theorem test_write : (after (step (ready [.request (.write [0xA5#8])] .done))).map (fun t => (t.tx.getLast?, t.img)) =
    some (some [0x3C#8, 0x57#8, 0x00#8, 0x00#8, 0xA5#8, 0x3D#8], [0xA5#8]) := by decide
/-- V72, V89. -/
theorem test_clear : (after (step (ready [.request .clear] .done))).map (fun t => t.cur) = some (some .c) ∧
    (after (step (sent .r [] [.request .clear]))).map (fun t => t.results) =
      some [.success, .success, .refused .busy] := by decide
/-- V73. -/
theorem test_lock : (after (step (ready [.request .lock] .done))).map (fun t => (t.tx.getLast?, t.cur)) =
    some (some [0x3C#8, 0x4C#8, 0x3D#8], some .l) := by decide
/-- V74. -/
theorem test_unlock : (after (step (ready [.request .unlock] .done))).map (fun t => (t.tx.getLast?, t.cur)) =
    some (some [0x3C#8, 0x55#8, 0x3D#8], some .u) := by decide
/-- V90: after a failure the error stays; a second `SHUTDOWN` is refused. -/
theorem test_shutdown : (after (exec .shutdown { ready [] .done with ps := .failed, err := some .deviceError })).map
      (fun t => (t.ps, t.err)) = some (.closed, some .deviceError) ∧
    (after (exec .shutdown { ready [] .done with ps := .closed })).map (fun t => t.results.getLast?) =
      some (some (.refused .closed)) := by decide

/-! ## The environment's turns -/

/-- V56: a timeout in the handshake, in the middle of a frame. -/
theorem test_timeout : (after (step { handshaking [] [.rxFail .timeout] with inside := true, acc := [0x48#8, 0x45#8] })).map
    (fun t => (t.err, t.inside, t.acc)) =
    some (some (.connectionError (.link (.readFailed .timeout))), true, [0x48#8, 0x45#8]) := by decide
/-- V93. -/
theorem test_reset_input : (after (step
    { sent .r [0x41#8] [.reset] with ps := .draining, pos := 5#4, inside := true, acc := [0x31#8, 0x3A#8] })).map
    (fun t => (t.ps, t.acc, t.rxq)) = some (.unstarted, [], [0x41#8]) := by decide
/-- V94: bytes that arrive in `Failed` only lengthen the queue, and the block reads none of them. -/
theorem test_failed_reads_nothing : (after (step { sent .r [0x41#8] [.rxByte] with ps := .failed })).map (fun t => t.rxq) =
      some [0x41#8] ∧
    (after (step { sent .r [0x41#8] [.arrive [0x42#8]] with ps := .failed })).map (fun t => (t.rxq, t.ps)) =
      some ([0x41#8, 0x42#8], .failed) := by decide
/-- S2: noise before the frame, and an end marker outside it, are dropped. -/
theorem test_read_frame_noise : readFrame false [] [0x58#8, 0x59#8, 0x3D#8, 0x3C#8, 0x4F#8, 0x4B#8, 0x3D#8] =
    some ([0x4F#8, 0x4B#8], []) := by decide

/-! ## Witnesses: the hypotheses of each statement can be met, each clause at a boundary of its range -/

theorem witness_ClassesOfAPayload :
    Config.helloText = [0x48#8, 0x45#8, 0x4C#8, 0x4C#8, 0x4F#8] ∧ ([] : Bytes) ≠ [0x48#8, 0x45#8, 0x4C#8, 0x4C#8, 0x4F#8] ∧
    Config.okText = [0x4F#8, 0x4B#8] ∧ Config.errorText = [0x45#8, 0x52#8, 0x52#8, 0x4F#8, 0x52#8] ∧
    ([] : Bytes).count 0x3A#8 ≠ 1 ∧ ([0x3A#8, 0x3A#8] : Bytes).count 0x3A#8 ≠ 1 ∧ ([0x3A#8] : Bytes).count 0x3A#8 = 1 := by decide

theorem witness_DecodeOfEncode :
    ((Instr.record [] []).WellFormed ∧ encode (.record [] []) = some [0x3A#8]) ∧
    ((Instr.w 0xFFFF#16 0x3D#8).WellFormed ∧ encode (.w 0xFFFF#16 0x3D#8) = some [0x3C#8, 0x57#8, 0xFF#8, 0xFF#8, 0x3D#8, 0x3D#8]) ∧
    ((Instr.data 0xFF#8).WellFormed ∧ encode (.data 0xFF#8) = some [0xFF#8]) ∧
    (Instr.other []).WellFormed ∧ (Instr.invalid []).WellFormed := by decide

theorem witness_EncodeOfDecode :
    decode .cmd [0x3C#8, 0x57#8, 0xFF#8, 0xFF#8, 0x3C#8, 0x3D#8] = .ok (.w 0xFFFF#16 0x3C#8) ∧
    decode .rxByte [0x00#8] = .ok (.data 0x00#8) ∧ decode .rspHandshake [] = .ok (.other []) ∧
    decode .rspDrain [0x3A#8] = .ok (.record [] []) := ⟨rfl, rfl, rfl, rfl⟩

theorem witness_TurnsAndAnswersAreTakenInOrder :
    (ready [.reset] .done).sched = .reset :: [] ∧ State.reset.sched = [] ∧
    (ready [.reset] .done).txAnswers = .done :: [] ∧ State.reset.txAnswers = [] := by decide

theorem witness_StepRunsTheRequest : (ready [.request .lock] .done).nextTurn = .request .lock := by decide

theorem witness_StepRunsTheReceivedByte :
    ((sent .r [0xFF#8] [.rxByte]).nextTurn = .rxByte ∧ (sent .r [0xFF#8] [.rxByte]).ps = .commandSent ∧
      (sent .r [0xFF#8] [.rxByte]).rxq = 0xFF#8 :: []) ∧
    ({ sent .r [0x3D#8] [.rxByte] with ps := .draining } : State).ps = .draining := by decide

theorem witness_StepOfAReadFailure :
    ((handshaking [] [.rxFail .timeout]).nextTurn = .rxFail .timeout ∧ (handshaking [] [.rxFail .timeout]).ps = .commandSent ∧
      (handshaking [] [.rxFail .timeout]).cur = some .h ∧ (handshaking [] [.rxFail .timeout]).rxq = []) ∧
    ((sent .r [0x41#8] [.rxFail .readFailure]).nextTurn = .rxFail .readFailure ∧
      (sent .r [0x41#8] [.rxFail .readFailure]).cur = some .r ∧ ReadCause.readFailure ≠ .timeout) := by decide

theorem witness_StepOfArrivingBytes : (State.nextTurn { State.reset with sched := [.arrive []] }) = .arrive [] ∧
    (ready [.arrive [0x3C#8]] .done).nextTurn = .arrive [0x3C#8] := by decide

theorem witness_StepOfTheResetInput : (sent .r [0x41#8] [.reset]).nextTurn = .reset := by decide

theorem witness_TurnsNotEnabledPass :
    ((ready [.rxByte] .done).nextTurn = .rxByte ∧ (ready [.rxByte] .done).ps = .idle) ∧
    ((sent .r [] [.rxByte]).nextTurn = .rxByte ∧ (sent .r [] [.rxByte]).rxq = []) ∧
    ((ready [.rxFail .readFailure] .done).nextTurn = .rxFail .readFailure ∧
      (ready [.rxFail .readFailure] .done).ps = .idle) ∧
    ((sent .r [0x41#8] [.rxFail .timeout]).nextTurn = .rxFail .timeout ∧
      (sent .r [0x41#8] [.rxFail .timeout]).rxq ≠ []) := by decide

theorem witness_EofDeliversThePayload : ({ sent .r [] [] with inside := true } : State).inside = true ∧
    (sent .r [] []).inside = false := by decide

/-- The payload awaited by the handshake, and one in a drain with the largest image (R20). -/
theorem witness_EofOfAnAwaitedFrameCompletes :
    (({ handshaking [] [] with inside := true } : State).cur = some .h ∧
      ({ handshaking [] [] with inside := true } : State).ps = .commandSent) ∧
    ∃ s : State, s.inside = true ∧ s.cur = some .w ∧ s.img.length = 65536 ∧ s.ps = .draining ∧ Letter.w ≠ .h :=
  have ⟨image, h, _⟩ := exists_image 65535;
  ⟨by decide, { sent .w [] [] with inside := true, ps := .draining, img := image }, rfl, rfl, h, rfl, by decide⟩

theorem witness_DataIsAccumulated :
    (({ sent .r [] [] with inside := true } : State).params.payloadMax ≠ some 0) ∧
    (let s : State := { sent .r [] [] with inside := true, params := { Params.default with payloadMax := some 0 } }
     s.inside = true ∧ s.params.payloadMax = some s.acc.length ∧ s.cur = some .r) ∧
    (sent .r [] []).inside = false := by decide

theorem witness_CommandsAreIssued :
    (started [] .done).ps = .idle ∧ (started [] .done).nextTxAnswer = .done ∧
    (Instr.h, Letter.h, 0x48#8) ∈ simpleCommands ∧ (Instr.u, Letter.u, 0x55#8) ∈ simpleCommands := by decide

theorem witness_FailedCommandWriteRaises :
    (started [] (.fail .shortWrite)).ps = .idle ∧ (started [] (.fail .shortWrite)).nextTxAnswer = .fail .shortWrite ∧
    (Instr.h, Letter.h, 0x48#8) ∈ simpleCommands ∧ (Instr.c, Letter.c, 0x43#8) ∈ simpleCommands := by decide

theorem witness_RulesOutsideTheirGuardStop :
    State.reset.ps ≠ .idle ∧ (Instr.l, Letter.l, 0x4C#8) ∈ simpleCommands ∧
    ¬ (State.reset.ps = .commandSent ∧ State.reset.cur = some .h) ∧ ¬ ((sent .r [] []).cur = some .h) ∧
    (State.reset.ps ≠ .commandSent ∧ State.reset.ps ≠ .draining) ∧
    ({ sent .r [] [] with cur := none } : State).cur = none ∧ (handshaking [] []).cur = some .h := by decide

theorem witness_HelloEndsTheHandshake : (handshaking [] []).ps = .commandSent ∧ (handshaking [] []).cur = some .h := by decide

theorem witness_OtherPayloadIsAConnectionError :
    (sent .h [] []).ps = .commandSent ∧ (sent .h [] []).cur = some .h ∧ (sent .h [] []).hs = true := by decide

/-- The last byte of an image, and an operation without one. -/
theorem witness_OkEndsTheOperation :
    ((sent .u [] []).ps = .commandSent ∧ (sent .u [] []).cur = some .u ∧ Letter.u ≠ .h ∧ Letter.u ≠ .w) ∧
    (let s : State := { writing .done with ps := .draining, wrIdx := 1#16 }
     s.ps = .draining ∧ s.cur = some .w ∧ ¬ s.wrIdx.toNat + 1 < s.img.length) := by decide

/-- The last two addresses, both answers of the frame write. -/
theorem witness_OkSendsTheNextByte :
    (∃ s : State, s.ps = .draining ∧ s.cur = some .w ∧ s.img.length = 65536 ∧ s.img[s.wrIdx.toNat + 1]? = some 0x00#8 ∧
      s.wrIdx = 0xFFFE#16 ∧ s.nextTxAnswer = .done) ∧
    ((writing (.fail .writeFailure)).ps = .commandSent ∧ (writing (.fail .writeFailure)).cur = some .w ∧
      (writing (.fail .writeFailure)).img[(writing (.fail .writeFailure)).wrIdx.toNat + 1]? = some 0xAD#8 ∧
      (writing (.fail .writeFailure)).nextTxAnswer = .fail .writeFailure) :=
  have ⟨image, h, _, hd⟩ := exists_image 65535;
  ⟨⟨{ writing .done with ps := .draining, img := image, wrIdx := 0xFFFE#16 }, rfl, rfl, h, hd, rfl, rfl⟩, by decide⟩

theorem witness_RecordIsPrinted :
    ((sent .r [] []).ps = .commandSent ∧ (sent .r [] []).cur = some .r ∧ Letter.r ≠ .h) ∧
    ({ sent .w [] [] with ps := .draining, pos := 15#4 } : State).ps = .draining ∧
    ({ sent .w [] [] with ps := .draining, pos := 15#4 } : State).cur = some .w ∧ Letter.w ≠ .h := by decide

theorem witness_ErrorIsADeviceError :
    (sent .l [] []).ps = .commandSent ∧ (sent .l [] []).cur = some .l ∧ Letter.l ≠ .h := by decide

theorem witness_InvalidPayloadIsAnError :
    ({ sent .c [] [] with ps := .draining } : State).ps = .draining ∧ (sent .c [] []).cur = some .c ∧ Letter.c ≠ .h := by decide

theorem witness_StartDrainsTheLink : State.reset.ps = .unstarted := by decide

theorem witness_CheckConnectionIssuesHello :
    ((started [] .done).ps = .idle ∧ (started [] .done).nextTxAnswer = .done) ∧
    ((ready [] (.fail .shortWrite)).ps = .idle ∧ (ready [] (.fail .shortWrite)).nextTxAnswer = .fail .shortWrite) := by decide

theorem witness_OperationsIssueTheirCommand :
    (Request.read, Letter.r, 0x52#8) ∈ operations ∧ (Request.unlock, Letter.u, 0x55#8) ∈ operations ∧
    (ready [] .done).ps = .idle ∧ (ready [] .done).hs = true ∧ (ready [] .done).nextTxAnswer = .done ∧
    (ready [] (.fail .writeFailure)).nextTxAnswer = .fail .writeFailure := by decide

/-- The images of length 0, 1, 65536 and 65537. -/
theorem witness_WriteLatchesAndSendsTheFirstByte :
    ((ready [] .done).ps = .idle ∧ (ready [] .done).hs = true ∧ (ready [] .done).nextTxAnswer = .done ∧
      (ready [] (.fail .writeFailure)).nextTxAnswer = .fail .writeFailure) ∧
    (([0xA5#8] : Bytes).head? = some 0xA5#8 ∧ ([0xA5#8] : Bytes).length ≤ 65536 ∧ ([0xA5#8] : Bytes) ≠ []) ∧
    (∃ image : Bytes, image.length = 65536 ∧ image.head? = some 0x00#8) ∧ ∃ image : Bytes, image.length = 65537 :=
  have ⟨full, hf, hh, _⟩ := exists_image 65535;
  have ⟨long, ho, _⟩ := exists_image 65536;
  ⟨by decide, by decide, ⟨full, hf, hh⟩, long, ho⟩

theorem witness_ShutdownClosesTheRun : State.reset.ps = .unstarted ∧ (ready [] .done).ps = .idle ∧
    ({ ready [] .done with ps := .failed } : State).ps = .failed := by decide

theorem witness_RefusalsFollowTheTable :
    refusalTable false .idle (.write []) = some .notHandshaken ∧ refusalTable true .closed .shutdown = some .closed ∧
    (∃ image : Bytes, image.length = 65537 ∧ refusalTable true .idle (.write image) = some .imageTooLong) ∧
    (refusalTable true .idle .lock = none ∧ ∃ t, exec (decodeRequest .lock) (ready [] .done) = .next t) :=
  have ⟨image, h, _⟩ := exists_image 65536;
  ⟨rfl, rfl, ⟨image, h, by simp [refusalTable, h]⟩, rfl, _, rfl⟩

/-- A step along each row of R24 that leaves the control state another: a request written and one whose write fails, `HELLO`,
another payload, a record, `OK`, `ERROR`, a payload that is no record, an overflow, a failed read, the next `W` failed and
written, `START`, `SHUTDOWN`, reset. -/
theorem witness_ControlStateTransitions :
    let framed (s : State) (p : Bytes) : State := { s with inside := true, acc := p }
    let awaited := handshaking [0x3D#8] [.rxByte]
    let drained := sent .r [0x3D#8] [.rxByte]
    let full : State := { sent .r [0x41#8] [.rxByte] with inside := true, params := { Params.default with payloadMax := some 0 } }
    (after (step (ready [.request .lock] .done))).map State.ps = some .commandSent ∧
    (after (step (ready [.request .lock] (.fail .shortWrite)))).map State.ps = some .failed ∧
    (after (step (framed awaited Config.helloText))).map State.ps = some .idle ∧
    (after (step (framed awaited Config.okText))).map State.ps = some .failed ∧
    (after (step (framed drained [0x3A#8]))).map State.ps = some .draining ∧
    (after (step (framed drained Config.okText))).map State.ps = some .idle ∧
    (after (step (framed drained Config.errorText))).map State.ps = some .failed ∧
    (after (step (framed drained []))).map State.ps = some .failed ∧
    (after (step full)).map State.ps = some .failed ∧
    (after (step (sent .r [] [.rxFail .timeout]))).map State.ps = some .failed ∧
    (after (step (writing (.fail .writeFailure)))).map State.ps = some .failed ∧
    (after (step { writing .done with ps := .draining })).map State.ps = some .commandSent ∧
    (after (step { State.reset with sched := [.request .start] })).map State.ps = some .idle ∧
    (after (step (ready [.request .shutdown] .done))).map State.ps = some .closed ∧
    (after (step (ready [.reset] .done))).map State.ps = some .unstarted := by decide

theorem witness_OneCommandInFlight : ∃ t, step (writing .done) = .next t ∧ (writing .done).nextTurn ≠ .reset ∧
    t.tx = (writing .done).tx ++ [[0x3C#8, 0x57#8, 0x00#8, 0x01#8, 0xAD#8, 0x3D#8]] := ⟨_, rfl, by decide, by decide⟩

/-- A byte read, bytes that arrive, and the queue emptied by `START`. -/
theorem witness_LinkQueueIsConsumedByteByByte :
    (∃ t, step (sent .r [0x41#8] [.rxByte]) = .next t ∧ t.rxq = []) ∧
    (∃ t, step (sent .r [0x41#8] [.arrive [0x42#8]]) = .next t ∧ t.rxq = [0x41#8, 0x42#8]) ∧
    ∃ t, step { State.reset with rxq := [0x41#8], sched := [.request .start] } = .next t ∧ t.rxq = [] :=
  ⟨⟨_, rfl, by decide⟩, ⟨_, rfl, by decide⟩, _, rfl, by decide⟩

/-- The flag set, and the flag cleared. -/
theorem witness_HandshakeFlagIsSetByHelloOnly :
    (∃ t, step { handshaking [0x3D#8] [.rxByte] with inside := true, acc := Config.helloText } = .next t ∧
      (handshaking [] []).hs = false ∧ t.hs = true) ∧
    ∃ t, step (ready [.reset] .done) = .next t ∧ (ready [.reset] .done).hs = true ∧ t.hs = false :=
  ⟨⟨_, rfl, by decide, by decide⟩, _, rfl, by decide, by decide⟩

theorem witness_OnlyRecordsArePrinted :
    let s : State := { sent .r [0x3D#8] [.rxByte] with inside := true, acc := [0x3A#8], pos := 8#4 }
    ∃ t, step s = .next t ∧ s.nextTurn ≠ .reset ∧ t.sink = [0x20#8, 0x20#8] := ⟨_, rfl, by decide, by decide⟩

/-- A request, and a step that is none. -/
theorem witness_OneResultForEveryRequest :
    (∃ t, step (ready [.request .clear] .done) = .next t ∧ (ready [.request .clear] .done).nextTurn = .request .clear) ∧
    (∃ t, step (sent .r [] [.rxFail .timeout]) = .next t) ∧
    (sent .r [] [.rxFail .timeout]).nextTurn = .rxFail .timeout := ⟨⟨_, rfl, by decide⟩, ⟨_, rfl⟩, by decide⟩

theorem witness_ErrorEntryIsPrecise : ∃ t, step (writing (.fail .writeFailure)) = .next t ∧
    (writing (.fail .writeFailure)).ps ≠ .failed ∧ t.ps = .failed := ⟨_, rfl, by decide, by decide⟩

theorem witness_FailedIsSticky :
    let s : State := { sent .r [0x41#8] [.request .read] with ps := .failed, err := some .deviceError }
    (∃ t, step s = .next t) ∧ s.ps = .failed ∧ s.nextTurn ≠ .reset ∧ s.nextTurn = .request .read ∧ Request.read ≠ .shutdown :=
  ⟨⟨_, rfl⟩, by decide⟩

theorem witness_ClosedIsFinal :
    let s : State := { sent .r [0x41#8] [.request .shutdown] with ps := .closed }
    (∃ t, step s = .next t) ∧ s.ps = .closed ∧ s.nextTurn ≠ .reset ∧ s.nextTurn = .request .shutdown := ⟨⟨_, rfl⟩, by decide⟩

theorem witness_ImageIsLatchedWhole : ∃ t, step (ready [.request (.write [0x00#8])] .done) = .next t ∧
    (ready [.request (.write [0x00#8])] .done).nextTurn ≠ .reset ∧ t.img ≠ (ready [] .done).img :=
  ⟨_, rfl, by decide, by decide⟩

theorem witness_ByteRulesRefineScan : (sent .r [] []).params.payloadMax = none ∧ (sent .r [] []).inside = false ∧
    (sent .r [] []).acc = [] := by decide

/-- Noise, a truncated frame, the frame, and a byte after it (S2, S3). -/
theorem witness_FrameSearchDeliversTheFrame :
    let s := sent .r [0x58#8, 0x3D#8, 0x3C#8, 0x45#8, 0x3C#8, 0x4F#8, 0x4B#8, 0x3D#8, 0x3C#8] (List.replicate 8 .rxByte)
    s.searching = true ∧ s.inside = false ∧ s.acc = [] ∧ s.params.payloadMax = none ∧
    readFrame false [] s.rxq = some ([0x4F#8, 0x4B#8], [0x3C#8]) ∧
    s.sched = List.replicate (s.rxq.length - 1) .rxByte ++ [] := by decide

/-- Noise and an end marker outside a frame, a truncated frame, the same searched from inside it, and an empty queue. -/
theorem witness_FrameSearchHasNoBound :
    (let s := sent .r [0x58#8, 0x59#8, 0x3D#8] (List.replicate 3 Turn.rxByte)
     s.searching = true ∧ s.params.payloadMax = none ∧ s.inside = false ∧ s.acc = [] ∧
     readFrame s.inside s.acc s.rxq = none ∧ s.sched = List.replicate s.rxq.length Turn.rxByte ++ []) ∧
    (let s := sent .r [0x3C#8, 0x41#8, 0x41#8] (List.replicate 3 Turn.rxByte)
     readFrame s.inside s.acc s.rxq = none ∧ s.sched = List.replicate s.rxq.length Turn.rxByte ++ []) ∧
    (let s : State := { sent .r [0x41#8, 0x3C#8] (List.replicate 2 Turn.rxByte) with inside := true, acc := [0x41#8] }
     s.searching = true ∧ s.inside ≠ false ∧ readFrame s.inside s.acc s.rxq = none ∧
     s.sched = List.replicate s.rxq.length Turn.rxByte ++ []) ∧
    (let s := sent .r [] []
     readFrame s.inside s.acc s.rxq = none ∧ s.sched = List.replicate s.rxq.length Turn.rxByte ++ []) := by decide

/-- A response of no record, and one of one record with empty tokens, at the last column. -/
theorem witness_ResponseOfRecordsIsPrinted :
    (let s := sent .r (rspFrame Config.okText) (List.replicate 4 Turn.rxByte)
     s.searching = true ∧ s.cur = some .r ∧ Letter.r ≠ .h ∧ s.inside = false ∧ s.acc = [] ∧ s.params.payloadMax = none ∧
     s.rxq = rspFrame [0x4F#8, 0x4B#8] ++ [] ∧ s.sched = List.replicate 4 Turn.rxByte ++ []) ∧
    (let s : State := { sent .r (rspFrame [0x3A#8] ++ rspFrame Config.okText) (List.replicate 7 Turn.rxByte) with pos := 15#4 }
     IsRecord ([], []) ∧ Letter.r ≠ .w ∧
     s.rxq = (([([], [])] : List (Bytes × Bytes)).map (fun r => rspFrame (recordPayload r))).flatten ++
       rspFrame [0x4F#8, 0x4B#8] ++ [] ∧ s.sched = List.replicate 7 Turn.rxByte ++ []) :=
  ⟨by decide, ⟨rfl, rfl, by decide, by decide⟩, by decide, by decide, by decide⟩

theorem witness_BootReachesIdle :
    let s : State := { State.reset with
      rxq := [0x3C#8, 0x41#8], txAnswers := [.done]
      sched := [Turn.request Request.start, Turn.request Request.checkConnection, Turn.arrive (rspFrame Config.helloText)] ++ List.replicate 7 Turn.rxByte }
    s.ps = .unstarted ∧ s.params.payloadMax = none ∧ s.nextTxAnswer = .done ∧
    s.sched = [Turn.request Request.start, Turn.request Request.checkConnection,
      Turn.arrive (rspFrame [0x48#8, 0x45#8, 0x4C#8, 0x4C#8, 0x4F#8])] ++ List.replicate 7 Turn.rxByte ++ [] := by decide

/-- An image of one byte (R195). -/
theorem witness_WriteSendsTheWholeImage :
    let s : State := { ready (Turn.request (Request.write [0xA5#8]) :: List.replicate 4 Turn.rxByte) .done with rxq := rspFrame Config.okText }
    s.ps = .idle ∧ s.hs = true ∧ s.params.payloadMax = none ∧ ([0xA5#8] : Bytes) ≠ [] ∧ ([0xA5#8] : Bytes).length ≤ 65536 ∧
    s.txAnswers = List.replicate 1 TxAnswer.done ++ [] ∧ s.rxq = (List.replicate 1 (rspFrame [0x4F#8, 0x4B#8])).flatten ++ [] ∧
    s.sched = Turn.request (Request.write [0xA5#8]) :: List.replicate (4 * 1) Turn.rxByte ++ [] := by decide

/-- S12 with the error at byte 0 of an image of one byte. -/
theorem witness_WriteAbortsAtTheFirstError :
    let s : State := { ready (Turn.request (Request.write [0xA5#8]) :: List.replicate 7 Turn.rxByte) .done with rxq := rspFrame Config.errorText }
    s.ps = .idle ∧ s.hs = true ∧ s.params.payloadMax = none ∧ 0 < ([0xA5#8] : Bytes).length ∧
    s.txAnswers = List.replicate (0 + 1) TxAnswer.done ++ [] ∧
    s.rxq = (List.replicate 0 (rspFrame [0x4F#8, 0x4B#8])).flatten ++ rspFrame [0x45#8, 0x52#8, 0x52#8, 0x4F#8, 0x52#8] ++ [] ∧
    s.sched = Turn.request (Request.write [0xA5#8]) :: List.replicate (4 * 0 + 7) Turn.rxByte ++ [] := by decide

/-- The invariant holds in the middle of a read, and that state steps. -/
theorem witness_StepKeepsTheInvariant_and_NoStepStops :
    (sent .r [0x41#8] [.rxByte]).Inv ∧ ∃ t, step (sent .r [0x41#8] [.rxByte]) = .next t := by
  refine ⟨?_, _, rfl⟩
  constructor
  case outstanding => exact fun _ => ⟨frame .r [], rfl, .r, [], rfl, rfl, fun _ => rfl, fun h => by cases h⟩
  case tx_frames =>
    intro f hf
    rcases List.mem_cons.mp hf with rfl | hf
    · exact ⟨.h, [], rfl, rfl⟩
    · rw [List.mem_singleton.mp hf]; exact ⟨.r, [], rfl, rfl⟩
  case tx_first => exact fun f hf => (Option.some.inj hf).symm
  case acc_bound => exact fun n hn => by cases hn
  all_goals decide

end Sys2Proof.Tests
end

section
/-! The scope of the model (00_scope.md): which agent moves in a step. -/

namespace Sys2Proof.Statements

open Sys2Proof.Machine

/-- Settles O7: a request turn is fetched as the request's instruction (R8 a), by the step law `step_request`. -/
theorem stepRunsTheRequest : Obligations.StepRunsTheRequest := by
  intro s r hturn
  exact step_request hturn

end Sys2Proof.Statements
end

section
/-! The state's own operations (10_state.md section 3): how the model's lists are used up, what a command issue leaves in the
fields it does not own, and what each kind of move does to the link queue and to the handshake flag. -/

namespace Sys2Proof.Machine

/-! ## The lists of turns and answers -/

theorem State.nextTurn_of_cons {s : State} {t : Turn} {later : List Turn} (h : s.sched = t :: later) : s.nextTurn = t := by
  simp [State.nextTurn, h]

theorem State.useTurn_of_cons {s : State} {t : Turn} {later : List Turn} (h : s.sched = t :: later) :
    s.useTurn = { s with sched := later } := by
  simp [State.useTurn, h]

theorem State.nextTurn_of_nil {s : State} (h : s.sched = []) : s.nextTurn = Config.freeTurn s.turnDraws := by
  simp [State.nextTurn, h]

theorem State.useTurn_of_nil {s : State} (h : s.sched = []) : s.useTurn = { s with turnDraws := s.turnDraws + 1 } := by
  simp [State.useTurn, h]

theorem State.nextTxAnswer_of_cons {s : State} {a : TxAnswer} {later : List TxAnswer} (h : s.txAnswers = a :: later) :
    s.nextTxAnswer = a := by
  simp [State.nextTxAnswer, h]

theorem State.useTxAnswer_of_cons {s : State} {a : TxAnswer} {later : List TxAnswer} (h : s.txAnswers = a :: later) :
    s.useTxAnswer = { s with txAnswers := later } := by
  simp [State.useTxAnswer, h]

theorem State.nextTxAnswer_of_nil {s : State} (h : s.txAnswers = []) : s.nextTxAnswer = Config.freeTxAnswer s.txDraws := by
  simp [State.nextTxAnswer, h]

theorem State.useTxAnswer_of_nil {s : State} (h : s.txAnswers = []) : s.useTxAnswer = { s with txDraws := s.txDraws + 1 } := by
  simp [State.useTxAnswer, h]

/-! ## Arriving bytes, read failures -/

theorem step_arrive {s : State} {bytes : Bytes} (h : s.nextTurn = .arrive bytes) :
    step s = .next (s.useTurn.rxAppend bytes) := by
  simp [step, State.fetch, State.environment, h]

theorem State.mayFail_iff (s : State) (cause : ReadCause) : s.mayFail cause = true ↔ (cause = .timeout → s.rxq = []) := by
  cases cause <;> simp [State.mayFail]

/-! ## What the issue of a command leaves -/

section
variable (s : State) (letter : Letter) (arg : Bytes) (cause : WriteCause)

@[simp] theorem State.issued_ps : (s.issued letter arg).ps = .commandSent := rfl
@[simp] theorem State.issued_hs : (s.issued letter arg).hs = s.hs := rfl
@[simp] theorem State.issued_rxq : (s.issued letter arg).rxq = s.rxq := rfl
@[simp] theorem State.issueFailed_ps : (s.issueFailed letter cause).ps = .failed := rfl
@[simp] theorem State.issueFailed_hs : (s.issueFailed letter cause).hs = s.hs := rfl
@[simp] theorem State.issueFailed_rxq : (s.issueFailed letter cause).rxq = s.rxq := rfl

end

/-! ## The link queue -/

/-- A request leaves the link queue alone, but for the startup drain (R140). -/
theorem RequestMoved.rxq {u t : State} {r : Request} (h : RequestMoved u r t) :
    t.rxq = u.rxq ∨ (u.ps = .unstarted ∧ r = .start ∧ t.rxq = []) := by
  cases h with
  | started hp => exact .inr ⟨hp, rfl, rfl⟩
  | _ => exact .inl rfl

theorem PayloadMoved.rxq {v t : State} {p : Bytes} (h : PayloadMoved v p t) : t.rxq = v.rxq := by
  cases h <;> rfl

theorem ByteMoved.rxq {v t : State} {b : Byte} (h : ByteMoved v b t) : t.rxq = v.rxq := by
  cases h with
  | delivered _ hm => exact hm.rxq
  | _ => rfl

/-! ## The handshake flag -/

theorem RequestMoved.hs {u t : State} {r : Request} (h : RequestMoved u r t) : t.hs = u.hs := by
  cases h <;> rfl

/-- A payload keeps the handshake flag, or it is `HELLO` answering `H`, which sets it (R143). -/
theorem PayloadMoved.hs {v t : State} {p : Bytes} (h : PayloadMoved v p t) :
    t.hs = v.hs ∨ (v.ps = .commandSent ∧ v.cur = some .h ∧ p = Config.helloText ∧ t.hs = true) := by
  cases h with
  | hello hp hc => exact .inr ⟨hp, hc, rfl, rfl⟩
  | _ => exact .inl rfl

/-- A received byte keeps the handshake flag, or it ends the frame `HELLO` that answers `H`. -/
theorem ByteMoved.hs {v t : State} {b : Byte} (h : ByteMoved v b t) :
    t.hs = v.hs ∨ (v.ps = .commandSent ∧ v.cur = some .h ∧ b = Config.EOF ∧ v.inside = true ∧
      v.acc = Config.helloText ∧ t.hs = true) := by
  cases h with
  | delivered hi hm => exact hm.hs.imp_right fun ⟨hp, hc, ha, ht⟩ => ⟨hp, hc, rfl, hi, ha, ht⟩
  | _ => exact .inl rfl

end Sys2Proof.Machine

namespace Sys2Proof.Statements

open Sys2Proof.Machine

/-! ## The statements' events, from the moves of a step -/

/-- The end marker read inside a frame completes the frame with the accumulated payload (R112). -/
theorem frameCompletes_of_eof {s : State} {rest : Bytes} (h : s.nextTurn = .rxByte) (hs : s.searching = true)
    (hq : s.rxq = Config.EOF :: rest) (hi : s.inside = true) : FrameCompletes s s.acc :=
  ⟨h, hs, by rw [hq]; rfl, hi, rfl⟩

theorem drainsItsResponse_of_cur {s : State} {op : Letter} (hs : s.searching = true) (hc : s.cur = some op) (ho : op ≠ .h) :
    DrainsItsResponse s := by
  simp [DrainsItsResponse, hs, hc, ho]

theorem hasMoreToWrite_iff (s : State) : HasMoreToWrite s ↔ s.cur = some .w ∧ s.moreImage = true := by
  rw [HasMoreToWrite, State.moreImage_iff]

theorem issuesCommand_of_requestLetter {s : State} {r : Request} {letter : Letter} {needs : Bool} (hi : s.ps = .idle)
    (h : s.nextTurn = .request r) (hr : requestLetter r = some (letter, needs)) (hh : needs = true → s.hs = true) :
    IssuesCommand s := by
  refine ⟨hi, r, h, ?_⟩
  cases r with
  | checkConnection => exact ⟨rfl, by simp, by simp⟩
  | read | clear | lock | unlock => cases hr; exact ⟨by simp [refusalTable, hh rfl], by simp, by simp⟩
  | start | write | shutdown => cases hr

theorem issuesCommand_of_write {s : State} {d : Byte} {rest : Bytes} (hi : s.ps = .idle)
    (h : s.nextTurn = .request (.write (d :: rest))) (hh : s.hs = true) (hl : (d :: rest).length ≤ Config.imageMax) :
    IssuesCommand s := by
  have hl : ¬ (d :: rest).length > 65536 := Nat.not_lt.mpr hl
  exact ⟨hi, _, h, by rw [refusalTable, if_neg (by simp [hh]), if_neg hl], by simp, by simp⟩

/-! ## Rows of the transition table (R24) -/

/-- The rows of a request: `START`, an issue by its write's answer, `SHUTDOWN`. -/
theorem ps_of_request {s t : State} {r : Request} (h : s.nextTurn = .request r) (hm : RequestMoved s.useTurn r t) :
    t.ps = s.ps ∨
    (s.ps = .unstarted ∧ s.nextTurn = .request .start ∧ t.ps = .idle) ∨
    (IssuesCommand s ∧ s.nextTxAnswer = .done ∧ t.ps = .commandSent) ∨
    (IssuesCommand s ∧ (∃ cause, s.nextTxAnswer = .fail cause) ∧ t.ps = .failed) ∨
    ((s.ps = .unstarted ∨ s.ps = .idle ∨ s.ps = .failed) ∧ s.nextTurn = .request .shutdown ∧ t.ps = .closed) := by
  cases hm with
  | refused => exact .inl rfl
  | wroteNothing => exact .inl rfl
  | started hp => exact .inr (.inl ⟨hp, h, rfl⟩)
  | issued hr hi hh ha => exact .inr (.inr (.inl ⟨issuesCommand_of_requestLetter hi h hr hh, ha, rfl⟩))
  | writeIssued hi hh hl ha => exact .inr (.inr (.inl ⟨issuesCommand_of_write hi h hh hl, ha, rfl⟩))
  | issueFailed hr hi hh ha =>
    exact .inr (.inr (.inr (.inl ⟨issuesCommand_of_requestLetter hi h hr hh, ⟨_, ha⟩, rfl⟩)))
  | writeFailed hi hh hl ha => exact .inr (.inr (.inr (.inl ⟨issuesCommand_of_write hi h hh hl, ⟨_, ha⟩, rfl⟩)))
  | closed hp => exact .inr (.inr (.inr (.inr ⟨hp, h, rfl⟩)))

/-- The rows of a completed frame, by the class of its payload. -/
theorem ps_of_payload {s t : State} {rest p : Bytes} (hf : FrameCompletes s p)
    (hm : PayloadMoved { s.useTurn with rxq := rest, inside := false, acc := [] } p t) :
    (s.ps = .commandSent ∧ s.cur = some .h ∧ FrameCompletes s Config.helloText ∧ t.ps = .idle) ∨
    (DrainsItsResponse s ∧ ¬ HasMoreToWrite s ∧ FrameCompletes s Config.okText ∧ t.ps = .idle) ∨
    (HasMoreToWrite s ∧ FrameCompletes s Config.okText ∧ s.nextTxAnswer = .done ∧ t.ps = .commandSent) ∨
    (DrainsItsResponse s ∧ (∃ p, FrameCompletes s p ∧ p.count Config.SEP = 1) ∧ t.ps = .draining) ∨
    (ResponseFails s ∧ t.ps = .failed) := by
  cases hm with
  | hello hp hc => exact .inl ⟨hp, hc, hf, rfl⟩
  | okEnds hs hc ho hm =>
    have hmore : ¬ HasMoreToWrite s := fun hw =>
      have ⟨hw, hi⟩ := (hasMoreToWrite_iff s).mp hw
      hm ⟨Option.some.inj (hc.symm.trans hw), hi⟩
    exact .inr (.inl ⟨drainsItsResponse_of_cur hs hc ho, hmore, hf, rfl⟩)
  | okNext hs hc hm hd ha => exact .inr (.inr (.inl ⟨(hasMoreToWrite_iff s).mpr ⟨hc, hm⟩, hf, ha, rfl⟩))
  | @record op a d hs hc ho ha hd =>
    have hcount : (a ++ Config.SEP :: d).count Config.SEP = 1 := by
      simp [List.count_append, List.count_eq_zero_of_not_mem ha, List.count_eq_zero_of_not_mem hd]
    exact .inr (.inr (.inr (.inl ⟨drainsItsResponse_of_cur hs hc ho, ⟨_, hf, hcount⟩, rfl⟩)))
  | other hp hc hne => exact .inr (.inr (.inr (.inr ⟨.inr (.inl ⟨hp, hc, p, hf, hne⟩), rfl⟩)))
  | error hs hc ho =>
    exact .inr (.inr (.inr (.inr ⟨.inr (.inr (.inl ⟨drainsItsResponse_of_cur hs hc ho, hf⟩)), rfl⟩)))
  | invalid hs hc ho h1 h2 h3 =>
    exact .inr (.inr (.inr (.inr
      ⟨.inr (.inr (.inr (.inl ⟨drainsItsResponse_of_cur hs hc ho, p, hf, h1, h2, h3⟩))), rfl⟩)))
  | okNextFailed hs hc hm ha =>
    exact .inr (.inr (.inr (.inr
      ⟨.inr (.inr (.inr (.inr (.inl ⟨(hasMoreToWrite_iff s).mpr ⟨hc, hm⟩, hf, _, ha⟩)))), rfl⟩)))

/-- A received byte keeps the control state, overflows the accumulator (R117), or completes a frame, whose payload decides. -/
theorem ps_of_byte {s t : State} {b : Byte} {rest : Bytes} (h : s.nextTurn = .rxByte) (hs : s.searching = true)
    (hq : s.rxq = b :: rest) (hm : ByteMoved { s.useTurn with rxq := rest } b t) :
    t.ps = s.ps ∨ (ResponseFails s ∧ t.ps = .failed) ∨
    ∃ p, FrameCompletes s p ∧ PayloadMoved { s.useTurn with rxq := rest, inside := false, acc := [] } p t := by
  cases hm with
  | sof => exact .inl rfl
  | discarded => exact .inl rfl
  | accumulated => exact .inl rfl
  | overflowed hi hb hf =>
    have hfull : s.params.payloadMax = some s.acc.length := eq_of_beq hf
    have hfails : ResponseFails s :=
      .inr (.inr (.inr (.inr (.inr ⟨h, hs, hi, hfull, b, by rw [hq]; rfl, isMarker_false hb⟩))))
    exact .inr (.inl ⟨hfails, rfl⟩)
  | delivered hi hp => exact .inr (.inr ⟨_, frameCompletes_of_eof h hs hq hi, hp⟩)

/-! ## The obligations -/

/-- Settles O35: by the move of the step, each kind of move with its own rows of the table. -/
theorem controlStateTransitions : Obligations.ControlStateTransitions := by
  intro s t hstep
  cases step_moved hstep with
  | passes => exact .inl rfl
  | arrived => exact .inl rfl
  | reset h => exact .inr (.inl ⟨h, rfl⟩)
  | readFailed h hs hm =>
    have hfails : ResponseFails s := .inl ⟨_, h, hs, (State.mayFail_iff s _).mp hm⟩
    iterate 9 apply Or.inr
    exact .inl ⟨hfails, rfl⟩
  | requested h hm =>
    obtain hp | hp | hp | hp | hp := ps_of_request h hm
    · exact .inl hp
    · exact .inr (.inr (.inl hp))
    · exact .inr (.inr (.inr (.inl hp)))
    · exact .inr (.inr (.inr (.inr (.inl hp))))
    · iterate 10 apply Or.inr
      exact hp
  | received h hs hq hm =>
    obtain hp | hp | ⟨p, hf, hpay⟩ := ps_of_byte h hs hq hm
    · exact .inl hp
    · iterate 9 apply Or.inr
      exact .inl hp
    · iterate 5 apply Or.inr
      obtain hp | hp | hp | hp | hp := ps_of_payload hf hpay
      · exact .inl hp
      · exact .inr (.inl hp)
      · exact .inr (.inr (.inl hp))
      · exact .inr (.inr (.inr (.inl hp)))
      · exact .inr (.inr (.inr (.inr (.inl hp))))

/-- Settles O37: V's turn appends, a byte turn removes the head, and of the requests only `START` touches the queue. -/
theorem linkQueueIsConsumedByteByByte : Obligations.LinkQueueIsConsumedByteByByte := by
  intro s t hstep
  cases step_moved hstep with
  | passes => exact .inl ⟨[], by simp⟩
  | reset => exact .inl ⟨[], by simp⟩
  | readFailed => exact .inl ⟨[], by simp⟩
  | @arrived bytes h => exact .inl ⟨bytes, rfl, .inr h⟩
  | requested h hm =>
    obtain hq | ⟨hp, rfl, hq⟩ := hm.rxq
    · exact .inl ⟨[], by simp [hq]⟩
    · exact .inr (.inr ⟨hp, h, hq⟩)
  | @received b rest t h hs hq hm =>
    have hrest : t.rxq = rest := hm.rxq
    exact .inr (.inl ⟨(State.searching_iff s).mp hs, h, b, by rw [hq, hrest]⟩)

/-- What a step does to the handshake flag: nothing, or reset clears it, or `HELLO` received for `H` sets it. -/
theorem step_hs {s t : State} (hstep : step s = .next t) :
    t.hs = s.hs ∨ (s.nextTurn = .reset ∧ t.hs = false) ∨
    (s.ps = .commandSent ∧ s.cur = some .h ∧ FrameCompletes s Config.helloText ∧ t.hs = true) := by
  cases step_moved hstep with
  | passes => exact .inl rfl
  | arrived => exact .inl rfl
  | readFailed => exact .inl rfl
  | reset h => exact .inr (.inl ⟨h, rfl⟩)
  | requested _ hm => exact .inl hm.hs
  | received h hs hq hm =>
    obtain hh | ⟨hp, hc, rfl, hi, ha, ht⟩ := hm.hs
    · exact .inl hh
    · have hf : FrameCompletes s Config.helloText := ha ▸ frameCompletes_of_eof h hs hq hi
      exact .inr (.inr ⟨hp, hc, hf, ht⟩)

/-- Settles O38: both halves from the three cases of `step_hs`. -/
theorem handshakeFlagIsSetByHelloOnly : Obligations.HandshakeFlagIsSetByHelloOnly := by
  intro s t hstep
  obtain hh | ⟨hr, ht⟩ | ⟨hp, hc, hf, ht⟩ := step_hs hstep
  · rw [hh]
    exact ⟨fun h h' => by simp [h] at h', fun h h' => by simp [h] at h'⟩
  · exact ⟨fun _ ht' => by simp [ht] at ht', fun _ _ => hr⟩
  · exact ⟨fun _ _ => ⟨hp, hc, hf⟩, fun _ ht' => by simp [ht] at ht'⟩

/-- Settles O6: each list is either headed by its next value or empty, and both cases are the laws of its two accessors. -/
theorem turnsAndAnswersAreTakenInOrder : Obligations.TurnsAndAnswersAreTakenInOrder := by
  intro s
  exact ⟨fun _ _ h => ⟨State.nextTurn_of_cons h, State.useTurn_of_cons h⟩,
    fun h => ⟨State.nextTurn_of_nil h, State.useTurn_of_nil h⟩,
    fun _ _ h => ⟨State.nextTxAnswer_of_cons h, State.useTxAnswer_of_cons h⟩,
    fun h => ⟨State.nextTxAnswer_of_nil h, State.useTxAnswer_of_nil h⟩⟩

/-- Settles O10: the environment's move of an arriving turn is `rxAppend`, by `step_arrive`. -/
theorem stepOfArrivingBytes : Obligations.StepOfArrivingBytes := by
  intro s bytes h
  exact step_arrive h

/-- Settles O34: every register and trace of `State.reset` is written out with its value (R20, R240, R241). -/
theorem resetValues : Obligations.ResetValues :=
  ⟨rfl, rfl, rfl, rfl, rfl, rfl, rfl, rfl, rfl, rfl, rfl, rfl⟩

end Sys2Proof.Statements
end

section
/-! The channels and the image port (20_memory.md): which turns of the link the block takes, and what each kind of move does to
the frames written, the sink, the results and the image latch. -/

namespace Sys2Proof.Machine

/-! ## Turns of the link that pass -/

theorem State.searching_eq_false {s : State} (h : s.ps ≠ .commandSent ∧ s.ps ≠ .draining) : s.searching = false := by
  simpa [State.searching] using h

/-- A byte answered while the block has issued no `RxRead`. -/
theorem step_rxByte_of_not_searching {s : State} (h : s.nextTurn = .rxByte) (hs : s.searching = false) :
    step s = .next s.useTurn := by
  simp [step, State.fetch, State.environment, h, hs]

/-- A byte answered from an empty link queue (R54). -/
theorem step_rxByte_of_rxq_nil {s : State} (h : s.nextTurn = .rxByte) (hq : s.rxq = []) : step s = .next s.useTurn := by
  have hread : s.useTurn.rxRead = none := State.rxRead_nil hq
  simp [step, State.fetch, State.environment, h, hread]

/-- A read failure the link may not answer now. -/
theorem step_rxFail_of_disabled {s : State} {cause : ReadCause} (h : s.nextTurn = .rxFail cause)
    (hd : s.searching = false ∨ s.mayFail cause = false) : step s = .next s.useTurn := by
  have hguard : (s.searching && s.mayFail cause) = false := Bool.and_eq_false_iff.mpr hd
  simp [step, State.fetch, State.environment, h, hguard]

/-! ## The frames written -/

/-- From `s` to `t` one frame is written: `TxWrite` answers `Done`, the frame is appended to `tx`, and in `t` it is the one in
flight. -/
def FrameSent (s t : State) : Prop :=
  ∃ f, t.tx = s.tx ++ [f] ∧ t.ps = .commandSent ∧ t.IsOutstanding f ∧ s.nextTxAnswer = .done

theorem frameSent_issued {s : State} {letter : Letter} (ha : s.nextTxAnswer = .done) (hl : letter ≠ .w) :
    FrameSent s (s.issued letter []) :=
  ⟨frame letter [], rfl, rfl, ⟨letter, [], rfl, rfl, fun _ => rfl, fun hw => absurd hw hl⟩, ha⟩

theorem frameSent_issued_w {s : State} {d : Byte} (ha : s.nextTxAnswer = .done) (hd : s.memRead s.wrIdx = some d) :
    FrameSent s (s.issued .w (wArg s.wrIdx d)) :=
  ⟨frame .w (wArg s.wrIdx d), rfl, rfl, ⟨.w, _, rfl, rfl, fun hne => absurd rfl hne, fun _ => ⟨d, hd, rfl⟩⟩, ha⟩

/-- No request but `WRITE` issues a `W`. -/
theorem requestLetter_ne_w {r : Request} {letter : Letter} {needs : Bool} (h : requestLetter r = some (letter, needs)) :
    letter ≠ .w := by
  cases r <;> cases h <;> decide

/-- A payload writes no frame, or it is the `OK` of a `W` with an image byte left (R194). -/
theorem PayloadMoved.tx {v t : State} {p : Bytes} (h : PayloadMoved v p t) :
    t.tx = v.tx ∨ (p = Config.okText ∧ v.cur = some .w ∧ v.moreImage = true ∧ FrameSent v t) := by
  cases h with
  | @okNext d _ hc hm hd ha =>
    have hsent : FrameSent { v with ps := .idle, wrIdx := v.nextIdx } _ := frameSent_issued_w ha hd
    exact .inr ⟨rfl, hc, hm, hsent⟩
  | _ => exact .inl rfl

/-- A received byte writes no frame, or it ends the `OK` of a `W` with an image byte left. -/
theorem ByteMoved.tx {v t : State} {b : Byte} (h : ByteMoved v b t) :
    t.tx = v.tx ∨ (b = Config.EOF ∧ v.inside = true ∧ v.acc = Config.okText ∧ v.cur = some .w ∧ v.moreImage = true ∧
      FrameSent v t) := by
  cases h with
  | delivered hi hm => exact hm.tx.imp_right fun ⟨hp, hc, hmore, hf⟩ => ⟨rfl, hi, hp, hc, hmore, hf⟩
  | _ => exact .inl rfl

/-! ## The sink -/

theorem RequestMoved.sink {u t : State} {r : Request} (h : RequestMoved u r t) : t.sink = u.sink := by
  cases h <;> rfl

/-- From `v` to `t` the record `a`, `d` is printed, as the text of the command in flight at the current column (R162). -/
def RecordPrinted (v : State) (a d : Bytes) (t : State) : Prop :=
  ∃ op, v.cur = some op ∧ op ≠ .h ∧ Config.SEP ∉ a ∧ Config.SEP ∉ d ∧
    t.sink = v.sink ++ recordText v.params op v.pos a d ∧ t.ps = .draining

/-- A payload prints nothing, or it is a record, which is printed. -/
theorem PayloadMoved.sink {v t : State} {p : Bytes} (h : PayloadMoved v p t) :
    t.sink = v.sink ∨ ∃ a d, p = a ++ Config.SEP :: d ∧ RecordPrinted v a d t := by
  cases h with
  | record _ hc ho ha hd => exact .inr ⟨_, _, rfl, _, hc, ho, ha, hd, rfl, rfl⟩
  | _ => exact .inl rfl

/-- A received byte prints nothing, or it ends the frame of a record, which is printed. -/
theorem ByteMoved.sink {v t : State} {b : Byte} (h : ByteMoved v b t) :
    t.sink = v.sink ∨
      ∃ a d, b = Config.EOF ∧ v.inside = true ∧ v.acc = a ++ Config.SEP :: d ∧ RecordPrinted v a d t := by
  cases h with
  | delivered hi hm => exact hm.sink.imp_right fun ⟨a, d, hp, hr⟩ => ⟨a, d, rfl, hi, hp, hr⟩
  | _ => exact .inl rfl

/-! ## The results -/

/-- From `v` to `t` the command in flight ends, with one result that is no refusal (R58). -/
def CommandEnds (v t : State) : Prop :=
  t.searching = false ∧ ∃ x : Result, t.results = v.results ++ [x] ∧ ∀ reason, x ≠ .refused reason

theorem commandEnds_raise (v : State) (e : Err) : CommandEnds v (v.raise e) :=
  ⟨rfl, .error e, rfl, fun _ => Result.noConfusion⟩

/-- A payload of a command in flight reports nothing while that command, or the next `W`, stays in flight, or it ends it. -/
theorem PayloadMoved.results {v t : State} {p : Bytes} (h : PayloadMoved v p t) :
    (t.results = v.results ∧ t.searching = true) ∨ CommandEnds v t := by
  cases h with
  | hello | okEnds => exact .inr ⟨rfl, .success, rfl, fun _ => Result.noConfusion⟩
  | okNext | record => exact .inl ⟨rfl, rfl⟩
  | other | error | invalid | okNextFailed => exact .inr (commandEnds_raise v _)

/-- A byte received for a command in flight reports nothing while a command stays in flight, or it ends it. -/
theorem ByteMoved.results {v t : State} {b : Byte} (h : ByteMoved v b t) (hs : v.searching = true) :
    (t.results = v.results ∧ t.searching = true) ∨ CommandEnds v t := by
  cases h with
  | sof | discarded | accumulated => exact .inl ⟨rfl, hs⟩
  | overflowed => exact .inr (commandEnds_raise v _)
  | delivered _ hm => exact hm.results

/-! ## The image latch -/

/-- A request leaves the image alone, or it is an accepted `WRITE` of the new image (R193). -/
theorem RequestMoved.img {u t : State} {r : Request} (h : RequestMoved u r t) :
    t.img = u.img ∨ (r = .write t.img ∧ u.ps = .idle ∧ u.hs = true ∧ t.img.length ≤ Config.imageMax) := by
  cases h with
  | wroteNothing hi hh => exact .inr ⟨rfl, hi, hh, Nat.zero_le _⟩
  | writeIssued hi hh hl | writeFailed hi hh hl => exact .inr ⟨rfl, hi, hh, hl⟩
  | _ => exact .inl rfl

theorem PayloadMoved.img {v t : State} {p : Bytes} (h : PayloadMoved v p t) : t.img = v.img := by
  cases h <;> rfl

theorem ByteMoved.img {v t : State} {b : Byte} (h : ByteMoved v b t) : t.img = v.img := by
  cases h with
  | delivered _ hm => exact hm.img
  | _ => rfl

end Sys2Proof.Machine

namespace Sys2Proof.Statements

open Sys2Proof.Machine

/-- A request writes no frame, or it issues a command from `Idle`. -/
theorem tx_of_request {s t : State} {r : Request} (h : s.nextTurn = .request r) (hm : RequestMoved s.useTurn r t) :
    t.tx = s.tx ∨ (IssuesCommand s ∧ FrameSent s t) := by
  cases hm with
  | issued hr hi hh ha =>
    have hsent : FrameSent s.useTurn _ := frameSent_issued ha (requestLetter_ne_w hr)
    exact .inr ⟨issuesCommand_of_requestLetter hi h hr hh, hsent⟩
  | @writeIssued d rest hi hh hl ha =>
    have hsent : FrameSent { s.useTurn with img := d :: rest, wrIdx := 0#16 } _ := frameSent_issued_w ha rfl
    exact .inr ⟨issuesCommand_of_write hi h hh hl, hsent⟩
  | _ => exact .inl rfl

/-- A request reports one result and puts no command in flight, or it reports none and puts the one it issues in flight. -/
theorem results_of_request {s t : State} {r : Request} (h : s.nextTurn = .request r) (hm : RequestMoved s.useTurn r t) :
    (∃ x : Result, t.results = s.results ++ [x] ∧ (t.searching = true → s.searching = true)) ∨
      (t.results = s.results ∧ t.searching = true ∧ IssuesCommand s) := by
  cases hm with
  | refused | wroteNothing => exact .inl ⟨_, rfl, id⟩
  | issued hr hi hh ha => exact .inr ⟨rfl, rfl, issuesCommand_of_requestLetter hi h hr hh⟩
  | writeIssued hi hh hl ha => exact .inr ⟨rfl, rfl, issuesCommand_of_write hi h hh hl⟩
  | started | closed | issueFailed | writeFailed => exact .inl ⟨_, rfl, fun hs => Bool.noConfusion hs⟩

/-- The request of a step that issues a command is accepted by the table, and is neither `START` nor `SHUTDOWN`. -/
theorem IssuesCommand.request {s : State} {r : Request} (hc : IssuesCommand s) (h : s.nextTurn = .request r) :
    s.ps = .idle ∧ r ≠ .start ∧ r ≠ .shutdown ∧ refusalTable s.hs s.ps r = none := by
  obtain ⟨hi, r', hr', htable, hshut, -⟩ := hc
  obtain rfl : r' = r := Turn.request.inj (hr'.symm.trans h)
  exact ⟨hi, fun hstart => by simp [hstart, refusalTable] at htable, hshut, hi ▸ htable⟩

/-- The printed text of a record is the statements' text at the column, read as a number (R162, R165). -/
theorem recordText_eq_textAt (params : Params) (op : Letter) (pos : BitVec 4) (a d : Bytes) :
    recordText params op pos a d = textAt params op pos.toNat a d := by
  have hmod : pos.toNat % 16 = pos.toNat := Nat.mod_eq_of_lt pos.isLt
  have hzero : pos = 0#4 ↔ pos.toNat = 0 := BitVec.toNat_inj.symm
  have hhalf : pos = Config.half ↔ pos.toNat = 8 := BitVec.toNat_inj.symm
  simp only [recordText, textAt, hmod, hzero, hhalf]
  rfl

/-! ## The obligations -/

/-- Settles O36: a request and the `OK` of a `W` are the only moves that write, by `tx_of_request` and `ByteMoved.tx`. -/
theorem oneCommandInFlight : Obligations.OneCommandInFlight := by
  intro s t hstep hreset
  cases step_moved hstep with
  | passes | arrived | readFailed => exact .inl rfl
  | reset h => exact absurd h hreset
  | requested h hm =>
    obtain htx | ⟨hissues, f, htx, hps, hout, ha⟩ := tx_of_request h hm
    · exact .inl htx
    · exact .inr ⟨f, htx, hps, hout, ha, .inl hissues⟩
  | received h hs hq hm =>
    obtain htx | ⟨rfl, hi, hacc, hc, hmore, f, htx, hps, hout, ha⟩ := hm.tx
    · exact .inl htx
    · have hcomplete : FrameCompletes s Config.okText := hacc ▸ frameCompletes_of_eof h hs hq hi
      exact .inr ⟨f, htx, hps, hout, ha, .inr ⟨(hasMoreToWrite_iff s).mpr ⟨hc, hmore⟩, hcomplete⟩⟩

/-- Settles O39: only a byte that ends the frame of a record prints, by `ByteMoved.sink`. -/
theorem onlyRecordsArePrinted : Obligations.OnlyRecordsArePrinted := by
  intro s t hstep hreset
  cases step_moved hstep with
  | passes | arrived | readFailed => exact .inl rfl
  | reset h => exact absurd h hreset
  | requested _ hm => exact .inl hm.sink
  | received h hs hq hm =>
    obtain hsink | ⟨a, d, rfl, hi, hacc, op, hc, ho, ha, hd, hsink, hps⟩ := hm.sink
    · exact .inl hsink
    · have hcomplete : FrameCompletes s (a ++ [Config.SEP] ++ d) := by
        have hf := frameCompletes_of_eof h hs hq hi
        rwa [show s.acc = a ++ [Config.SEP] ++ d by simpa using hacc] at hf
      rw [recordText_eq_textAt] at hsink
      exact .inr ⟨op, a, d, hc, ho, hcomplete, ha, hd, hsink, hps⟩

/-- Settles O40: requests by `results_of_request`; of the other turns a read failure and a received byte may end the command. -/
theorem oneResultForEveryRequest : Obligations.OneResultForEveryRequest := by
  intro s t hstep hreset
  cases step_moved hstep with
  | passes h | arrived h => exact ⟨fun r hr => by simp [hr] at h, fun _ => .inl ⟨rfl, rfl⟩⟩
  | reset h => exact absurd h hreset
  | readFailed h hs =>
    obtain ⟨hend, hresult⟩ := commandEnds_raise s.useTurn _
    exact ⟨fun r hr => by simp [hr] at h, fun _ => .inr ⟨hs, hend, hresult⟩⟩
  | @requested r' t h hm =>
    refine ⟨fun r hr => ?_, fun hno => absurd h (hno r')⟩
    obtain rfl : r' = r := Turn.request.inj (h.symm.trans hr)
    obtain hone | ⟨hres, hsearch, hissues⟩ := results_of_request h hm
    · exact .inl hone
    · obtain ⟨hi, hstart, hshut, htable⟩ := hissues.request h
      exact .inr ⟨hres, hi, hsearch, hstart, hshut, htable⟩
  | received h hs hq hm =>
    refine ⟨fun r hr => by simp [hr] at h, fun _ => ?_⟩
    obtain ⟨hres, hsearch⟩ | ⟨hend, hresult⟩ := hm.results hs
    · exact .inl ⟨hres, hsearch.trans hs.symm⟩
    · exact .inr ⟨hs, hend, hresult⟩

/-- Settles O44: of all moves only an accepted `WRITE` latches an image, by `RequestMoved.img`. -/
theorem imageIsLatchedWhole : Obligations.ImageIsLatchedWhole := by
  intro s t hstep hreset hchanged
  cases step_moved hstep with
  | passes | arrived | readFailed => exact absurd rfl hchanged
  | reset h => exact absurd h hreset
  | requested h hm =>
    obtain ⟨hr, hi, hh, hl⟩ := hm.img.resolve_left hchanged
    exact ⟨hr ▸ h, hi, hh, hl⟩
  | received _ _ _ hm => exact absurd hm.img hchanged

/-- Settles O8: with a command in flight and a byte in the queue the turn is fetched as that byte, by `step_rxByte`. -/
theorem stepRunsTheReceivedByte : Obligations.StepRunsTheReceivedByte := by
  intro s b rest h hps hq
  exact step_rxByte h ((State.searching_iff s).mpr hps) hq

/-- Settles O12: each disabled turn by its step law. -/
theorem turnsNotEnabledPass : Obligations.TurnsNotEnabledPass := by
  intro s
  refine ⟨fun h hd => ?_, fun cause h hd => ?_⟩
  · obtain hps | hq := hd
    · exact step_rxByte_of_not_searching h (State.searching_eq_false hps)
    · exact step_rxByte_of_rxq_nil h hq
  · refine step_rxFail_of_disabled h (hd.imp State.searching_eq_false fun ⟨hc, hq⟩ => ?_)
    exact Bool.eq_false_iff.mpr fun hm => hq ((State.mayFail_iff s cause).mp hm hc)

end Sys2Proof.Statements
end

section
/-! The encodings (30_encoding.md): what each decoder gives on the bytes of each class, and which instruction bytes that decode
stand for. -/

namespace Sys2Proof

/-! ## Well-formed operands -/

theorem wellFormed_data {b : Byte} : (Instr.data b).WellFormed ↔ isMarker b = false := by
  simp [Instr.WellFormed, Instr.wellFormed]

theorem wellFormed_other {p : Bytes} : (Instr.other p).WellFormed ↔ noMarker p = true ∧ p ≠ Config.helloText := by
  simp [Instr.WellFormed, Instr.wellFormed]

theorem wellFormed_invalid {p : Bytes} :
    (Instr.invalid p).WellFormed ↔
      noMarker p = true ∧ p ≠ Config.okText ∧ p ≠ Config.errorText ∧ p.count Config.SEP ≠ 1 := by
  simp [Instr.WellFormed, Instr.wellFormed, and_assoc]

theorem wellFormed_record {a d : Bytes} :
    (Instr.record a d).WellFormed ↔
      noMarker a = true ∧ noMarker d = true ∧ Config.SEP ∉ a ∧ Config.SEP ∉ d := by
  simp [Instr.WellFormed, Instr.wellFormed, and_assoc]

/-- The separator is no frame marker (R81), so a payload made of two tokens is free of markers when they are. -/
theorem noMarker_tokens {a d : Bytes} :
    noMarker (a ++ Config.SEP :: d) = true ↔ noMarker a = true ∧ noMarker d = true := by
  have hsep : isMarker Config.SEP = false := rfl
  simp [hsep]

theorem count_sep_tokens {a d : Bytes} (ha : Config.SEP ∉ a) (hd : Config.SEP ∉ d) :
    (a ++ Config.SEP :: d).count Config.SEP = 1 := by
  simp [List.count_append, List.count_eq_zero_of_not_mem ha, List.count_eq_zero_of_not_mem hd]

/-! ## Command frames -/

theorem decodeFrame_wArg (a : Addr) (d : Byte) : decodeFrame (frame .w (wArg a d)) = .ok (.w a d) := by
  simp [frame, wArg, decodeFrame, addrOf_split]

@[simp] theorem wArg_addrOf (hi lo d : Byte) : wArg (addrOf hi lo) d = [hi, lo, d] := by
  simp [wArg, extract_hi_addrOf, extract_lo_addrOf]

/-- Bytes that decode at level CMD are the frame of a letter that takes no argument, or the frame of a `W` (R83, R84). -/
theorem decodeFrame_ok {bytes : Bytes} {i : Instr} (h : decodeFrame bytes = .ok i) :
    (∃ x, bytes = frame x [] ∧ simpleCommand x = .ok i) ∨ (∃ a d, bytes = frame .w (wArg a d) ∧ i = .w a d) := by
  unfold decodeFrame at h
  split at h
  next s x e =>
    split at h
    next hm =>
      obtain ⟨rfl, rfl⟩ := hm
      split at h
      next letter hx => exact .inl ⟨letter, by simp [frame, letterOf_some hx], h⟩
      next => cases h
    next => cases h
  next s x hi lo d e =>
    split at h
    next hm =>
      obtain ⟨rfl, rfl⟩ := hm
      split at h
      next hx =>
        cases h
        exact .inr ⟨addrOf hi lo, d, by simp [frame, letterOf_some hx], rfl⟩
      next => cases h
      next => cases h
    next => cases h
  next => cases h

/-! ## Payloads -/

theorem decodeHs_other {p : Bytes} (h : p ≠ Config.helloText) : decodeHs p = .other p := by
  simp [decodeHs, classifyHs, h]

theorem decodeDrain_invalid {p : Bytes} (hok : p ≠ Config.okText) (herror : p ≠ Config.errorText)
    (hcount : p.count Config.SEP ≠ 1) : decodeDrain p = .invalid p := by
  simp [decodeDrain, classifyDrain, hok, herror, hcount]

theorem decodeDrain_record {a d : Bytes} (ha : Config.SEP ∉ a) (hd : Config.SEP ∉ d) :
    decodeDrain (a ++ Config.SEP :: d) = .record a d := by
  simp [decodeDrain, classifyDrain_record a d ha hd]

theorem decode_rspHandshake {p : Bytes} (h : noMarker p = true) : decode .rspHandshake p = .ok (decodeHs p) := by
  simp [decode, h]

theorem decode_rspDrain {p : Bytes} (h : noMarker p = true) : decode .rspDrain p = .ok (decodeDrain p) := by
  simp [decode, h]

/-! ## The instruction that bytes of a level stand for -/

/-- The bytes are the encoding, at this level, of this well-formed instruction. -/
def Encodes (level : Level) (bytes : Bytes) (i : Instr) : Prop :=
  encode i = some bytes ∧ i.level = level ∧ i.WellFormed

theorem encodes_decodeByte (b : Byte) : Encodes .rxByte [b] (decodeByte b) := by
  obtain ⟨rfl, e⟩ | ⟨rfl, e⟩ | ⟨hb, e⟩ := decodeByte_cases b <;> rw [e]
  · exact ⟨rfl, rfl, rfl⟩
  · exact ⟨rfl, rfl, rfl⟩
  · exact ⟨rfl, rfl, wellFormed_data.mpr hb⟩

theorem encodes_of_simpleCommand {x : Letter} {i : Instr} (h : simpleCommand x = .ok i) :
    Encodes .cmd (frame x []) i := by
  cases x <;> cases h <;> exact ⟨rfl, rfl, rfl⟩

theorem encodes_of_decodeFrame {bytes : Bytes} {i : Instr} (h : decodeFrame bytes = .ok i) : Encodes .cmd bytes i := by
  obtain ⟨x, rfl, hx⟩ | ⟨a, d, rfl, rfl⟩ := decodeFrame_ok h
  · exact encodes_of_simpleCommand hx
  · exact ⟨rfl, rfl, rfl⟩

theorem encodes_decodeHs {p : Bytes} (h : noMarker p = true) : Encodes .rspHandshake p (decodeHs p) := by
  by_cases hp : p = Config.helloText
  · subst hp
    exact ⟨rfl, rfl, rfl⟩
  · rw [decodeHs_other hp]
    exact ⟨rfl, rfl, wellFormed_other.mpr ⟨h, hp⟩⟩

theorem encodes_decodeDrain {p : Bytes} (h : noMarker p = true) : Encodes .rspDrain p (decodeDrain p) := by
  obtain ⟨rfl, -⟩ | ⟨rfl, -⟩ | ⟨hok, herror, hcount, -⟩ | ⟨a, d, rfl, ha, hd, -⟩ := classifyDrain_cases p
  · exact ⟨rfl, rfl, rfl⟩
  · exact ⟨rfl, rfl, rfl⟩
  · rw [decodeDrain_invalid hok herror hcount]
    exact ⟨rfl, rfl, wellFormed_invalid.mpr ⟨h, hok, herror, hcount⟩⟩
  · obtain ⟨hma, hmd⟩ := noMarker_tokens.mp h
    rw [decodeDrain_record ha hd]
    exact ⟨by simp [encode], rfl, wellFormed_record.mpr ⟨hma, hmd, ha, hd⟩⟩

/-- Everything the decoder accepts, level by level. -/
theorem encodes_of_decode {level : Level} {bytes : Bytes} {i : Instr} (h : decode level bytes = .ok i) :
    Encodes level bytes i := by
  cases level with
  | rxByte =>
    match bytes, h with
    | [b], h => cases h; exact encodes_decodeByte b
  | cmd => exact encodes_of_decodeFrame h
  | rspHandshake =>
    cases hm : noMarker bytes with
    | true => rw [decode_rspHandshake hm] at h; cases h; exact encodes_decodeHs hm
    | false => simp [decode, hm] at h
  | rspDrain =>
    cases hm : noMarker bytes with
    | true => rw [decode_rspDrain hm] at h; cases h; exact encodes_decodeDrain hm
    | false => simp [decode, hm] at h
  | req => cases h

/-- A well-formed instruction with an encoding is decoded from it, constructor by constructor. -/
theorem decode_of_encode {i : Instr} {bytes : Bytes} (hw : i.WellFormed) (he : encode i = some bytes) :
    decode i.level bytes = .ok i := by
  cases i with
  | sof | eof | h | r | c | l | u | hello | ok | error => cases he; rfl
  | data b => cases he; exact congrArg Except.ok (decodeByte_data (wellFormed_data.mp hw))
  | w a d => cases he; exact decodeFrame_wArg a d
  | other p =>
    cases he
    obtain ⟨hm, hne⟩ := wellFormed_other.mp hw
    exact (decode_rspHandshake hm).trans (congrArg Except.ok (decodeHs_other hne))
  | invalid p =>
    cases he
    obtain ⟨hm, hok, herror, hcount⟩ := wellFormed_invalid.mp hw
    exact (decode_rspDrain hm).trans (congrArg Except.ok (decodeDrain_invalid hok herror hcount))
  | record a d =>
    obtain ⟨hma, hmd, ha, hd⟩ := wellFormed_record.mp hw
    obtain rfl : a ++ Config.SEP :: d = bytes := by simpa [encode] using he
    exact (decode_rspDrain (noMarker_tokens.mpr ⟨hma, hmd⟩)).trans (congrArg Except.ok (decodeDrain_record ha hd))
  | start | checkConnection | read | write | clear | lock | unlock | shutdown => cases he

end Sys2Proof

namespace Sys2Proof.Statements

/-! ## The obligations -/

/-- Settles O4: constructor by constructor, `decode_of_encode`. -/
theorem decodeOfEncode : Obligations.DecodeOfEncode := by
  intro i bytes hw he
  exact decode_of_encode hw he

/-- Settles O5: level by level, `encodes_of_decode`. -/
theorem encodeOfDecode : Obligations.EncodeOfDecode := by
  intro level bytes i h
  exact encodes_of_decode h

/-- Settles O3: the tests in their order, and for a payload with one separator the tokens `classifyDrain_cases` gives, the address
token's length the separator's index. -/
theorem classesOfAPayload : Obligations.ClassesOfAPayload := by
  intro p
  refine ⟨fun h => h ▸ rfl, fun h => if_neg h, fun h => h ▸ rfl, fun h => h ▸ rfl, fun hok herror => ?_⟩
  obtain ⟨h, -⟩ | ⟨h, -⟩ | ⟨-, -, hcount, hinvalid⟩ | ⟨a, d, rfl, ha, hd, hrecord⟩ := classifyDrain_cases p
  · exact absurd h hok
  · exact absurd h herror
  · exact ⟨fun _ => hinvalid, fun h => absurd h hcount⟩
  · refine ⟨fun h => absurd (count_sep_tokens ha hd) h, fun _ => ⟨a.length, by simp, by simp [Config.SEP], ?_⟩⟩
    simpa using hrecord

/-- Settles O1: sixteen closed words, each run through the decoder. -/
theorem sampleWordsDecode : Obligations.SampleWordsDecode := by
  unfold Obligations.SampleWordsDecode
  decide

/-- Settles O2: the three classes of `decodeByte_cases`, each with its value. -/
theorem everyByteHasOneClass : Obligations.EveryByteHasOneClass := by
  intro b
  obtain ⟨h, e⟩ | ⟨h, e⟩ | ⟨hb, e⟩ := decodeByte_cases b <;> rw [e]
  · simp [h, Config.SOF]
  · simp [h, Config.EOF]
  · obtain ⟨hsof, heof⟩ : b ≠ 0x3C#8 ∧ b ≠ 0x3D#8 := isMarker_false hb
    simp [hsof, heof]

end Sys2Proof.Statements
end

section
/-! The receive scanner (40_frame_rx.md): what each received byte and each completed frame does, the scanner as a pure function and
what a stream delivers, the frame search, and the invariant, kept by every move of a step. -/

namespace Sys2Proof.Machine

/-! ## What one received byte does (R111 to R113, R117) -/

section
variable {s : State} {b : Byte}

theorem execEof_inside (hi : s.inside = true) : execEof s = deliver s.acc { s with inside := false, acc := [] } := by
  simp [execEof, hi]

theorem execEof_outside (hi : s.inside = false) : execEof s = .next s := by
  simp [execEof, hi]

theorem execData_inside (hi : s.inside = true) (hf : s.accFull = false) :
    execData b s = .next { s with acc := s.acc ++ [b] } := by
  simp [execData, hi, hf]

theorem execData_overflow (hi : s.inside = true) (hf : s.accFull = true) :
    execData b s = .next (s.raise (linkError s.cur .overflow)) := by
  simp [execData, hi, hf]

theorem execData_outside (hi : s.inside = false) : execData b s = .next s := by
  simp [execData, hi]

theorem State.accFull_iff (s : State) : s.accFull = true ↔ s.params.payloadMax = some s.acc.length := by
  simp [State.accFull]

theorem State.accFull_eq_false (h : s.params.payloadMax ≠ some s.acc.length) : s.accFull = false :=
  Bool.eq_false_iff.mpr fun hf => h ((State.accFull_iff s).mp hf)

/-- A read failure the link may answer now (R54, R115). -/
theorem step_rxFail_of_enabled {cause : ReadCause} (h : s.nextTurn = .rxFail cause) (hs : s.searching = true)
    (hm : s.mayFail cause = true) : step s = .next (s.useTurn.readFailed cause) := by
  simp [step, State.fetch, State.environment, h, hs, hm]

end

/-! ## A completed frame has a reaction -/

section
variable {v : State}

/-- The index of the next image byte, in an image that fits its address. -/
theorem State.toNat_nextIdx (hl : v.img.length ≤ 65536) (hm : v.moreImage = true) :
    v.nextIdx.toNat = v.wrIdx.toNat + 1 := by
  have hlt : v.wrIdx.toNat + 1 < v.img.length := (State.moreImage_iff v).mp hm
  have hsucc : (1#16).toNat = 1 := rfl
  rw [State.nextIdx, BitVec.toNat_add, hsucc, Nat.mod_eq_of_lt (by omega)]

theorem State.toNat_nextIdx_lt (hl : v.img.length ≤ 65536) (hm : v.moreImage = true) :
    v.nextIdx.toNat < v.img.length :=
  State.toNat_nextIdx hl hm ▸ (State.moreImage_iff v).mp hm

/-- From `Idle` an issue answers a next state, whatever the answer to the write. -/
theorem issue_of_idle (letter : Letter) (arg : Bytes) (hi : v.ps = .idle) : ∃ t, issue letter arg v = .next t := by
  cases ha : v.nextTxAnswer with
  | done => exact ⟨_, issue_done letter arg hi ha⟩
  | fail cause => exact ⟨_, issue_fail letter arg hi ha⟩

theorem deliver_of_handshake (p : Bytes) (hp : v.ps = .commandSent) (hc : v.cur = some .h) :
    ∃ t, deliver p v = .next t := by
  have hg : v.inHandshake = true := (State.inHandshake_iff v).mpr ⟨hp, hc⟩
  rw [deliver, if_pos hc]
  cases classifyHs p with
  | hello => exact ⟨_, if_pos hg⟩
  | other => exact ⟨_, if_pos hg⟩

/-- `OK` ends the operation, or finds the next byte of an image that fits its address (R194). -/
theorem execOk_of_drain {op : Letter} (hd : v.drainCommand = some op) (hl : v.img.length ≤ 65536) :
    ∃ t, execOk v = .next t := by
  simp only [execOk, hd]
  split
  next hm =>
    have hlt : v.nextIdx.toNat < v.img.length := State.toNat_nextIdx_lt hl hm.2
    have hread : State.memRead { v with ps := .idle, wrIdx := v.nextIdx } v.nextIdx = some v.img[v.nextIdx.toNat] :=
      List.getElem?_eq_getElem hlt
    rw [issueW_some hread]
    exact issue_of_idle _ _ rfl
  next => exact ⟨_, rfl⟩

theorem execError_of_drain {op : Letter} (hd : v.drainCommand = some op) : execError v = .next (v.raise .deviceError) := by
  simp [execError, hd]

theorem execInvalid_of_drain (p : Bytes) {op : Letter} (hd : v.drainCommand = some op) :
    execInvalid p v = .next (v.raise (.invalidResponseError p)) := by
  simp [execInvalid, hd]

theorem execRecord_of_drain (a d : Bytes) {op : Letter} (hd : v.drainCommand = some op) :
    execRecord a d v = .next
      { v.sinkEmit (recordText v.params op v.pos a d) with pos := nextPos v.pos, ps := .draining } := by
  simp only [execRecord, hd]

theorem deliver_of_drain (p : Bytes) {op : Letter} (hd : v.drainCommand = some op) (hl : v.img.length ≤ 65536) :
    ∃ t, deliver p v = .next t := by
  obtain ⟨-, hc, ho⟩ := State.drainCommand_eq_some.mp hd
  rw [deliver, if_neg (by simp [hc, ho])]
  cases classifyDrain p with
  | ok => exact execOk_of_drain hd hl
  | error => exact ⟨_, execError_of_drain hd⟩
  | invalid => exact ⟨_, execInvalid_of_drain p hd⟩
  | record a d => exact ⟨_, execRecord_of_drain a d hd⟩

end

/-- A payload leaves the scanner outside a frame, and writes no parameter. -/
theorem PayloadMoved.scanner {v t : State} {p : Bytes} (h : PayloadMoved v p t) (hi : v.inside = false) (ha : v.acc = []) :
    t.inside = false ∧ t.acc = [] ∧ t.params = v.params := by
  cases h with
  | okNext => exact ⟨rfl, rfl, rfl⟩
  | _ => exact ⟨hi, ha, rfl⟩

/-! ## The scanner as a pure function, byte by byte (R118) -/

section
variable {inside : Bool} {acc : Bytes} {b : Byte}

@[simp] theorem scan_sof : scan inside acc Config.SOF = ((true, []), none) := rfl

@[simp] theorem scan_eof_inside : scan true acc Config.EOF = ((false, []), some acc) := rfl

theorem scan_data_inside (hb : isMarker b = false) : scan true acc b = ((true, acc ++ [b]), none) := by
  simp [scan, isMarker_false hb]

theorem scan_outside (hb : b ≠ Config.SOF) : scan false acc b = ((false, []), none) := by
  simp [scan, hb]

/-- The scanner goes on, with nothing accumulated outside a frame, or delivers at an end marker inside one. -/
theorem scan_cases (inside : Bool) (acc : Bytes) (b : Byte) :
    (∃ inside' acc', scan inside acc b = ((inside', acc'), none) ∧ (inside' = false → acc' = [])) ∨
      scan inside acc b = ((false, []), some acc) := by
  obtain ⟨rfl, -⟩ | ⟨rfl, -⟩ | ⟨hb, -⟩ := decodeByte_cases b
  · exact .inl ⟨true, [], scan_sof, fun _ => rfl⟩
  · cases inside with
    | true => exact .inr scan_eof_inside
    | false => exact .inl ⟨false, [], scan_outside (by decide), fun _ => rfl⟩
  · cases inside with
    | true => exact .inl ⟨true, acc ++ [b], scan_data_inside hb, fun h => nomatch h⟩
    | false => exact .inl ⟨false, [], scan_outside (isMarker_false hb).1, fun _ => rfl⟩

theorem readFrame_of_scan_none {inside' : Bool} {acc' : Bytes} (h : scan inside acc b = ((inside', acc'), none))
    (rest : Bytes) : readFrame inside acc (b :: rest) = readFrame inside' acc' rest := by
  simp [readFrame, h]

theorem readFrame_of_scan_some {x : Bool × Bytes} {p : Bytes} (h : scan inside acc b = (x, some p)) (rest : Bytes) :
    readFrame inside acc (b :: rest) = some (p, rest) := by
  simp [readFrame, h]

@[simp] theorem readFrame_sof (rest : Bytes) : readFrame inside acc (Config.SOF :: rest) = readFrame true [] rest :=
  readFrame_of_scan_none scan_sof rest

@[simp] theorem readFrame_eof_inside (rest : Bytes) : readFrame true acc (Config.EOF :: rest) = some (acc, rest) :=
  readFrame_of_scan_some scan_eof_inside rest

theorem readFrame_data_inside (hb : isMarker b = false) (rest : Bytes) :
    readFrame true acc (b :: rest) = readFrame true (acc ++ [b]) rest :=
  readFrame_of_scan_none (scan_data_inside hb) rest

theorem readFrame_outside (hb : b ≠ Config.SOF) (rest : Bytes) :
    readFrame false acc (b :: rest) = readFrame false [] rest :=
  readFrame_of_scan_none (scan_outside hb) rest

/-- A delivery consumes at least the end marker. -/
theorem readFrame_length_lt {q p rest : Bytes} (h : readFrame inside acc q = some (p, rest)) : rest.length < q.length := by
  induction q generalizing inside acc with
  | nil => simp [readFrame] at h
  | cons b q ih =>
    obtain ⟨inside', acc', hscan, -⟩ | hscan := scan_cases inside acc b
    · exact Nat.lt_succ_of_lt (ih (readFrame_of_scan_none hscan q ▸ h))
    · obtain ⟨-, rfl⟩ : acc = p ∧ q = rest := by simpa [readFrame_of_scan_some hscan q] using h
      exact Nat.lt_succ_self _

end

/-! ## What a stream delivers -/

theorem noMarker_iff_not_mem (p : Bytes) : noMarker p = true ↔ Config.SOF ∉ p ∧ Config.EOF ∉ p := by
  induction p with
  | nil => simp
  | cons b p ih => simp [ih, isMarker, eq_comm (a := Config.SOF), eq_comm (a := Config.EOF), and_and_and_comm]

/-- The bytes of a stream from its first start marker on. -/
def fromStart (stream : Bytes) : Bytes := stream.dropWhile (fun b => b != Config.SOF)

@[simp] theorem fromStart_sof (rest : Bytes) : fromStart (Config.SOF :: rest) = Config.SOF :: rest := by
  simp [fromStart]

theorem fromStart_of_ne {b : Byte} (hb : b ≠ Config.SOF) (rest : Bytes) : fromStart (b :: rest) = fromStart rest := by
  simp [fromStart, hb]

theorem fromStart_append {noise : Bytes} (h : Config.SOF ∉ noise) (rest : Bytes) :
    fromStart (noise ++ rest) = fromStart rest :=
  List.dropWhile_append_of_pos fun _ hb => bne_iff_ne.mpr fun he => h (he ▸ hb)

theorem fromStart_eq_nil {stream : Bytes} (h : Config.SOF ∉ stream) : fromStart stream = [] := by
  simpa [fromStart] using fromStart_append h []

theorem fromStart_sublist (stream : Bytes) : List.Sublist (fromStart stream) stream := List.dropWhile_sublist _

/-- A payload is accumulated whole. -/
theorem readFrame_payload {p : Bytes} (hp : noMarker p = true) (acc tail : Bytes) :
    readFrame true acc (p ++ tail) = readFrame true (acc ++ p) tail := by
  induction p generalizing acc with
  | nil => simp
  | cons b p ih =>
    obtain ⟨hb, hp⟩ : isMarker b = false ∧ noMarker p = true := by simpa using hp
    simp [readFrame_data_inside hb, ih hp]

/-- Inside a frame the scanner stays there until an end marker. -/
theorem readFrame_inside_append {q : Bytes} (h : Config.EOF ∉ q) (acc : Bytes) :
    ∃ acc', ∀ tail, readFrame true acc (q ++ tail) = readFrame true acc' tail := by
  induction q generalizing acc with
  | nil => exact ⟨acc, fun _ => rfl⟩
  | cons b q ih =>
    obtain ⟨hb, hq⟩ := List.ne_and_not_mem_of_not_mem_cons h
    obtain ⟨rfl, -⟩ | ⟨rfl, -⟩ | ⟨hm, -⟩ := decodeByte_cases b
    · simpa using ih hq []
    · exact absurd rfl hb
    · simpa [readFrame_data_inside hm] using ih hq (acc ++ [b])

/-- The scanner searches on over bytes in which no end marker follows a start marker. -/
theorem readFrame_outside_append {q : Bytes} (h : Config.EOF ∉ fromStart q) :
    ∃ inside acc, ∀ tail, readFrame false [] (q ++ tail) = readFrame inside acc tail := by
  induction q with
  | nil => exact ⟨false, [], fun _ => rfl⟩
  | cons b q ih =>
    by_cases hb : b = Config.SOF
    · subst hb
      rw [fromStart_sof] at h
      obtain ⟨acc, hread⟩ := readFrame_inside_append (List.not_mem_of_not_mem_cons h) []
      exact ⟨true, acc, fun tail => (readFrame_sof _).trans (hread tail)⟩
    · rw [fromStart_of_ne hb] at h
      obtain ⟨inside, acc, hread⟩ := ih h
      exact ⟨inside, acc, fun tail => (readFrame_outside hb _).trans (hread tail)⟩

theorem readFrame_eq_none {stream : Bytes} (h : Config.EOF ∉ fromStart stream) : readFrame false [] stream = none := by
  obtain ⟨inside, acc, hread⟩ := readFrame_outside_append h
  simpa [readFrame] using hread []

/-- The first complete frame of the stream has payload `p` and stands between `before` and `rest`. -/
structure HoldsFrame (stream before p rest : Bytes) : Prop where
  /-- The stream is cut at the frame's two markers. -/
  split : stream = before ++ [Config.SOF] ++ p ++ [Config.EOF] ++ rest
  /-- No marker stands inside the frame (R119). -/
  payload : noMarker p = true
  /-- The frames begun before it were truncated: none of them has an end marker. -/
  truncated : Config.EOF ∉ fromStart before

theorem HoldsFrame.readFrame_eq {stream before p rest : Bytes} (h : HoldsFrame stream before p rest) :
    readFrame false [] stream = some (p, rest) := by
  obtain ⟨rfl, hp, hbefore⟩ := h
  obtain ⟨inside, acc, hread⟩ := readFrame_outside_append hbefore
  simp only [List.append_assoc, List.cons_append, List.nil_append, hread, readFrame_sof, readFrame_payload hp,
    readFrame_eof_inside]

/-- Bytes that hold a start marker, cut at the last one. -/
theorem exists_last_sof {q : Bytes} (h : Config.SOF ∈ q) : ∃ before p, q = before ++ Config.SOF :: p ∧ Config.SOF ∉ p := by
  obtain ⟨p, before, hsplit, hp⟩ := List.eq_append_cons_of_mem (List.mem_reverse.mpr h)
  exact ⟨before.reverse, p.reverse, by simpa using congrArg List.reverse hsplit, by simpa using hp⟩

/-- An end marker after a start marker completes a frame: cut at the first such end marker, then at the last start marker
before it. -/
theorem exists_holdsFrame {stream : Bytes} (h : Config.EOF ∈ fromStart stream) :
    ∃ before p rest, HoldsFrame stream before p rest := by
  have hstart : Config.SOF ∈ stream := by_contra fun hno => by simp [fromStart_eq_nil hno] at h
  obtain ⟨noise, body, rfl, hnoise⟩ := List.eq_append_cons_of_mem hstart
  rw [fromStart_append hnoise, fromStart_sof] at h
  obtain ⟨q, rest, hbody, hq⟩ := List.eq_append_cons_of_mem h
  have hq' : Config.SOF ∈ q := by
    cases q with
    | nil => cases hbody
    | cons b q => cases hbody; exact List.mem_cons_self
  obtain ⟨before, p, rfl, hp⟩ := exists_last_sof hq'
  simp only [List.mem_append, List.mem_cons, not_or] at hq
  obtain ⟨hbefore, -, hpeof⟩ := hq
  refine ⟨noise ++ before, p, rest, ?_, (noMarker_iff_not_mem p).mpr ⟨hp, hpeof⟩, ?_⟩
  · simp [hbody]
  · rw [fromStart_append hnoise]
    exact fun hmem => hbefore ((fromStart_sublist before).subset hmem)

theorem readFrame_eq_some_iff {stream p rest : Bytes} :
    readFrame false [] stream = some (p, rest) ↔ ∃ before, HoldsFrame stream before p rest := by
  refine ⟨fun hread => ?_, fun ⟨before, h⟩ => h.readFrame_eq⟩
  have hmem : Config.EOF ∈ fromStart stream := by_contra fun hno => by simp [readFrame_eq_none hno] at hread
  obtain ⟨before, p', rest', h⟩ := exists_holdsFrame hmem
  obtain ⟨rfl, rfl⟩ : p' = p ∧ rest' = rest := by simpa [h.readFrame_eq] using hread
  exact ⟨before, h⟩

theorem readFrame_eq_none_iff {stream : Bytes} :
    readFrame false [] stream = none ↔ Config.EOF ∉ fromStart stream := by
  refine ⟨fun hread hmem => ?_, readFrame_eq_none⟩
  obtain ⟨before, p, rest, h⟩ := exists_holdsFrame hmem
  simp [h.readFrame_eq] at hread

/-! ## The invariant under each update of the state -/

section
variable {s : State}

theorem State.Inv.err_eq_none (h : s.Inv) (hs : s.searching = true) : s.err = none := by
  obtain hp | hp := (State.searching_iff s).mp hs <;> exact h.running_no_err (by simp [hp]) (by simp [hp])

theorem State.Inv.err_eq_none_of_idle (h : s.Inv) (hi : s.ps = .idle) : s.err = none :=
  h.running_no_err (by simp [hi]) (by simp [hi])

/-- A command other than `H` is in flight only after the handshake (R147). -/
theorem State.Inv.hs_of_cur (h : s.Inv) {op : Letter} (hc : s.cur = some op) (ho : op ≠ .h) : s.hs = true := by
  by_contra hh
  obtain ⟨-, hcur, -⟩ := h.no_hs (by simpa using hh)
  simp [hc, ho] at hcur

/-- A command in flight has been written (I-5). -/
theorem State.Inv.tx_ne_nil (h : s.Inv) (hs : s.searching = true) : s.tx ≠ [] := by
  obtain ⟨f, hf, -⟩ := h.outstanding hs
  intro hnil
  simp [hnil] at hf

/-- A letter that needs the handshake, or is `H`, is `H` before the handshake. -/
theorem letter_eq_h {letter : Letter} (hl : letter ≠ .h → s.hs = true) (hf : s.hs = false) : letter = .h :=
  by_contra fun hne => by simp [hl hne] at hf

theorem State.Inv.useTurn (h : s.Inv) : s.useTurn.Inv := { h with }

theorem State.Inv.useTxAnswer (h : s.Inv) : s.useTxAnswer.Inv := { h with }

theorem State.Inv.withRxq (h : s.Inv) (q : Bytes) : State.Inv { s with rxq := q } := { h with }

theorem State.inv_resetInput (s : State) : s.resetInput.Inv where
  acc_outside _ := rfl
  outside_between _ := rfl
  failed_err hp := nomatch hp
  running_no_err _ _ := rfl
  draining_cur hp := nomatch hp
  outstanding hs := nomatch hs
  img_length := Nat.zero_le _
  wr_idx := .inr ⟨rfl, rfl⟩
  acc_no_marker := rfl
  acc_bound _ _ := Nat.zero_le _
  unstarted _ := ⟨rfl, rfl⟩
  tx_frames _ hf := nomatch hf
  tx_first _ hf := nomatch hf
  hs_sent hh := nomatch hh
  no_hs _ := ⟨fun _ hf => (nomatch hf), .inl rfl, rfl, rfl, rfl⟩
  one_error := rfl

/-- A result that is no error leaves the errors among the results as they were. -/
theorem State.Inv.report (h : s.Inv) {x : Result} (hx : x.reportedError = none) : (s.report x).Inv :=
  { h with one_error := by simpa [hx] using h.one_error }

/-- The error entry in a run that has no error yet records and reports the first one (R215, R218). -/
theorem State.Inv.raise (h : s.Inv) (hn : s.err = none) (e : Err) : (s.raise e).Inv :=
  { h with
    outside_between := fun hp => by simp at hp
    failed_err := fun _ => by simp
    running_no_err := fun hp => absurd rfl hp
    draining_cur := fun hp => nomatch hp
    outstanding := fun hs => nomatch hs
    unstarted := fun hp => nomatch hp
    one_error := by simp [Result.reportedError, h.one_error, hn] }

/-- The scanner's registers may change within I-1, I-2, R119 and R23. -/
theorem State.Inv.withScanner (h : s.Inv) {inside : Bool} {acc : Bytes}
    (hs : inside = false ∨ s.searching = true) (hout : inside = false → acc = []) (hm : noMarker acc = true)
    (hb : ∀ n, s.params.payloadMax = some n → acc.length ≤ n) :
    State.Inv { s with inside := inside, acc := acc } :=
  { h with
    acc_outside := hout
    outside_between := fun hp => hs.resolve_right fun hs => by
      obtain hp' | hp' := (State.searching_iff s).mp hs <;> simp [hp'] at hp
    acc_no_marker := hm
    acc_bound := hb }

/-- Outside a frame with nothing accumulated the scanner may stand in every state. -/
theorem State.Inv.withScannerOutside (h : s.Inv) : State.Inv { s with inside := false, acc := [] } :=
  h.withScanner (.inl rfl) (fun _ => rfl) rfl fun _ _ => Nat.zero_le _

/-- A run without an error whose scanner is outside a frame may wait for the host. -/
theorem State.Inv.toIdle (h : s.Inv) (hn : s.err = none) (hi : s.inside = false) : State.Inv { s with ps := .idle } :=
  { h with
    outside_between := fun _ => hi
    failed_err := fun hp => nomatch hp
    running_no_err := fun _ _ => hn
    draining_cur := fun hp => nomatch hp
    outstanding := fun hs => nomatch hs
    unstarted := fun hp => nomatch hp }

theorem State.Inv.toClosed (h : s.Inv) : State.Inv { s with ps := .closed } :=
  { h with
    outside_between := fun hp => by simp at hp
    failed_err := fun hp => nomatch hp
    running_no_err := fun _ hp => absurd rfl hp
    draining_cur := fun hp => nomatch hp
    outstanding := fun hs => nomatch hs
    unstarted := fun hp => nomatch hp }

/-- The handshake flag may be set in a run that has sent `H` (R26, I-6). -/
theorem State.Inv.withHs (h : s.Inv) (ht : s.tx ≠ []) : State.Inv { s with hs := true } :=
  { h with
    hs_sent := fun _ => ht
    no_hs := fun hh => nomatch hh }

/-- In `Idle` after the handshake the image latch and the write index may change together, within R20 and R29. -/
theorem State.Inv.withImage (h : s.Inv) (hi : s.ps = .idle) (hh : s.hs = true) {img : Bytes} {i : BitVec 16}
    (hl : img.length ≤ Config.imageMax) (hx : i.toNat < img.length ∨ (img = [] ∧ i = 0#16)) :
    State.Inv { s with img := img, wrIdx := i } :=
  { h with
    outstanding := fun hs => by simp [State.searching, hi] at hs
    img_length := hl
    wr_idx := hx
    no_hs := fun hf => by simp [hh] at hf }

/-- In `Idle` the letter of the last command may change, before the handshake only to `H` (R147). -/
theorem State.Inv.withCur (h : s.Inv) (hi : s.ps = .idle) {letter : Letter} (hl : letter ≠ .h → s.hs = true) :
    State.Inv { s with cur := some letter } :=
  { h with
    draining_cur := fun hp => by simp [hi] at hp
    outstanding := fun hs => by simp [State.searching, hi] at hs
    unstarted := fun hp => by simp [hi] at hp
    no_hs := fun hf => by
      obtain ⟨htx, -, hrest⟩ := h.no_hs hf
      exact ⟨htx, .inr (congrArg some (letter_eq_h hl hf)), hrest⟩ }

/-- A record of a command other than `H` may print and move the column: the handshake is done (R147). -/
theorem State.Inv.recordPrinted (h : s.Inv) (hs : s.searching = true) {op : Letter} (hc : s.cur = some op) (ho : op ≠ .h)
    (text : Bytes) (pos : BitVec 4) : State.Inv { s.sinkEmit text with pos := pos, ps := .draining } :=
  { h with
    outside_between := fun hp => by simp at hp
    failed_err := fun hp => nomatch hp
    running_no_err := fun _ _ => h.err_eq_none hs
    draining_cur := fun _ => by simp [hc, ho]
    outstanding := fun _ => h.outstanding hs
    unstarted := fun hp => nomatch hp
    no_hs := fun hf => by simp [h.hs_of_cur hc ho] at hf }

/-- A failed frame write records the letter and takes the error (R133). -/
theorem State.Inv.issueFailed (h : s.Inv) (hi : s.ps = .idle) {letter : Letter} (hl : letter ≠ .h → s.hs = true)
    (cause : WriteCause) : (s.issueFailed letter cause).Inv :=
  (h.useTxAnswer.withCur hi hl).raise (h.err_eq_none_of_idle hi) _

/-- A written frame is the one in flight: a command without an argument, or the `W` of the image byte at the index; before the
handshake it is `H` (R131, R147, R191). -/
theorem State.Inv.issued (h : s.Inv) (hi : s.ps = .idle) {letter : Letter} {arg : Bytes} (hl : letter ≠ .h → s.hs = true)
    (harg : letter ≠ .w → arg = []) (hw : letter = .w → ∃ d, s.memRead s.wrIdx = some d ∧ arg = wArg s.wrIdx d) :
    (s.issued letter arg).Inv := by
  have hframe : IsCommandFrame (frame letter arg) := by
    refine ⟨letter, arg, rfl, ?_⟩
    split
    next hlw => obtain ⟨d, -, rfl⟩ := hw hlw; rfl
    next hlw => simp [harg hlw]
  have hhello : s.hs = false → letter = .h ∧ arg = [] := fun hf => by
    have hlh : letter = .h := letter_eq_h hl hf
    exact ⟨hlh, harg (by simp [hlh])⟩
  exact { h with
    acc_outside := fun _ => rfl
    outside_between := fun _ => rfl
    failed_err := fun hp => nomatch hp
    running_no_err := fun _ _ => h.err_eq_none_of_idle hi
    draining_cur := fun hp => nomatch hp
    outstanding := fun _ => ⟨frame letter arg, by simp [State.issued], letter, arg, rfl, rfl, harg, hw⟩
    acc_no_marker := rfl
    acc_bound := fun _ _ => Nat.zero_le _
    unstarted := fun hp => nomatch hp
    tx_frames := fun f hf => by
      obtain hf | rfl : f ∈ s.tx ∨ f = frame letter arg := by simpa [State.issued] using hf
      · exact h.tx_frames f hf
      · exact hframe
    tx_first := fun f hf => by
      cases htx : s.tx with
      | nil =>
        have hf' : s.hs = false := Bool.eq_false_iff.mpr fun hh => h.hs_sent hh htx
        obtain ⟨rfl, rfl⟩ := hhello hf'
        simpa [State.issued, htx] using hf.symm
      | cons g later => exact h.tx_first f (by simpa [State.issued, htx] using hf)
    hs_sent := fun _ => by simp [State.issued]
    no_hs := fun hf => by
      obtain ⟨htx, -, hsink, himg, -⟩ := h.no_hs hf
      obtain ⟨rfl, rfl⟩ := hhello hf
      refine ⟨fun f hf => ?_, .inr rfl, hsink, himg, rfl⟩
      obtain hf | hf : f ∈ s.tx ∨ f = frame .h [] := by simpa [State.issued] using hf
      · exact htx f hf
      · exact hf }

end

/-! ## The invariant under each move of a step -/

/-- Every command of a request but `H` needs the handshake. -/
theorem requestLetter_needs {r : Request} {letter : Letter} {needs : Bool} (h : requestLetter r = some (letter, needs))
    (hl : letter ≠ .h) : needs = true := by
  cases r with
  | checkConnection => cases h; exact absurd rfl hl
  | read | clear | lock | unlock => cases h; rfl
  | start | write | shutdown => cases h

theorem RequestMoved.inv {u t : State} {r : Request} (h : RequestMoved u r t) (hu : u.Inv) : t.Inv := by
  have hwrite {d rest} (hi : u.ps = .idle) (hh : u.hs = true) (hl : (d :: rest).length ≤ Config.imageMax) :
      State.Inv { u with img := d :: rest, wrIdx := 0#16 } := hu.withImage hi hh hl (.inl (by simp))
  cases h with
  | refused => exact hu.report rfl
  | started hp =>
    have hn : u.err = none := hu.running_no_err (by simp [hp]) (by simp [hp])
    exact ((hu.withScannerOutside.toIdle hn rfl).withRxq []).report rfl
  | issued hr hi hh ha =>
    exact hu.issued hi (fun hl => hh (requestLetter_needs hr hl)) (fun _ => rfl)
      fun hw => absurd hw (requestLetter_ne_w hr)
  | issueFailed hr hi hh ha => exact hu.issueFailed hi (fun hl => hh (requestLetter_needs hr hl)) _
  | wroteNothing hi hh => exact (hu.withImage hi hh (Nat.zero_le _) (.inr ⟨rfl, rfl⟩)).report rfl
  | writeIssued hi hh hl ha =>
    exact (hwrite hi hh hl).issued hi (fun _ => hh) (fun hne => absurd rfl hne) fun _ => ⟨_, rfl, rfl⟩
  | writeFailed hi hh hl ha => exact (hwrite hi hh hl).issueFailed hi (fun _ => hh) _
  | closed => exact hu.toClosed.report rfl

/-- A payload delivered to a scanner outside a frame keeps the invariant. -/
theorem PayloadMoved.inv {v t : State} {p : Bytes} (h : PayloadMoved v p t) (hv : v.Inv) (ho : v.inside = false) :
    t.Inv := by
  have hidle (hs : v.searching = true) : State.Inv { v with ps := .idle } := hv.toIdle (hv.err_eq_none hs) ho
  have hnext (hs : v.searching = true) (hc : v.cur = some .w) (hm : v.moreImage = true) :
      v.hs = true ∧ State.Inv { v with ps := .idle, wrIdx := v.nextIdx } := by
    have hh : v.hs = true := hv.hs_of_cur hc (by decide)
    have hlt : v.nextIdx.toNat < v.img.length := State.toNat_nextIdx_lt hv.img_length hm
    exact ⟨hh, (hidle hs).withImage rfl hh hv.img_length (.inl hlt)⟩
  cases h with
  | hello hp hc =>
    have hs : v.searching = true := (State.searching_iff v).mpr (.inl hp)
    exact ((hidle hs).withHs (hv.tx_ne_nil hs)).report rfl
  | other hp hc hne => exact hv.raise (hv.err_eq_none ((State.searching_iff v).mpr (.inl hp))) _
  | okEnds hs hc ho hm => exact (hidle hs).report rfl
  | okNext hs hc hm hd ha =>
    obtain ⟨hh, hinv⟩ := hnext hs hc hm
    exact hinv.issued rfl (fun _ => hh) (fun hne => absurd rfl hne) fun _ => ⟨_, hd, rfl⟩
  | okNextFailed hs hc hm ha =>
    obtain ⟨hh, hinv⟩ := hnext hs hc hm
    exact hinv.issueFailed rfl (fun _ => hh) _
  | error hs hc ho => exact hv.raise (hv.err_eq_none hs) _
  | invalid hs hc ho => exact hv.raise (hv.err_eq_none hs) _
  | record hs hc ho ha hd => exact hv.recordPrinted hs hc ho _ _

/-- A byte received for a command in flight keeps the invariant. -/
theorem ByteMoved.inv {v t : State} {b : Byte} (h : ByteMoved v b t) (hv : v.Inv) (hs : v.searching = true) :
    t.Inv := by
  cases h with
  | sof => exact hv.withScanner (.inr hs) (fun _ => rfl) rfl fun _ _ => Nat.zero_le _
  | discarded => exact hv
  | accumulated hi hb hf =>
    have hbound : ∀ n, v.params.payloadMax = some n → (v.acc ++ [b]).length ≤ n := fun n hn => by
      have hle : v.acc.length ≤ n := hv.acc_bound n hn
      have hne : n ≠ v.acc.length := by simpa [State.accFull, hn] using hf
      rw [List.length_append, List.length_singleton]
      omega
    exact hv.withScanner (.inr hs) (fun hout => by simp [hi] at hout) (by simp [hv.acc_no_marker, hb]) hbound
  | overflowed => exact hv.raise (hv.err_eq_none hs) _
  | delivered hi hm => exact hm.inv hv.withScannerOutside rfl

theorem Moved.inv {s t : State} (h : Moved s t) (hs : s.Inv) : t.Inv := by
  cases h with
  | passes => exact hs.useTurn
  | reset => exact s.useTurn.inv_resetInput
  | arrived => exact hs.useTurn.withRxq _
  | readFailed _ hsearch => exact hs.useTurn.raise (hs.err_eq_none hsearch) _
  | requested _ hm => exact hm.inv hs.useTurn
  | received _ hsearch _ hm => exact hm.inv (hs.useTurn.withRxq _) hsearch

end Sys2Proof.Machine

namespace Sys2Proof.Statements

open Sys2Proof.Machine

theorem linkError_eq_linkErr (op : Letter) (cause : LinkCause) : linkError (some op) cause = linkErr op cause := by
  simp [linkError, linkErr]

/-- The instruction of a delivered payload is run by `deliver`, in every state with that command (R142, R156). -/
theorem exec_payloadInstr (v : State) (p : Bytes) : exec (payloadInstr v.cur p) v = deliver p v := by
  unfold payloadInstr deliver
  split
  · cases h : classifyHs p <;> simp only [decodeHs, h] <;> rfl
  · cases h : classifyDrain p <;> simp only [decodeDrain, h] <;> rfl

/-! ## The received byte and the frame search -/

/-- Settles O45: class by class, inside a frame and outside. -/
theorem byteRulesRefineScan : Obligations.ByteRulesRefineScan := by
  intro s b hmax hacc
  have hout (hi : s.inside = false) : { s with inside := false, acc := [] } = s := by
    rw [← hi, ← hacc hi]
  have hfull : s.accFull = false := State.accFull_eq_false (by simp [hmax])
  obtain ⟨rfl, e⟩ | ⟨rfl, e⟩ | ⟨hb, e⟩ := decodeByte_cases b <;> rw [e]
  · rfl
  · cases hi : s.inside with
    | true => exact (execEof_inside hi).trans (exec_payloadInstr { s with inside := false, acc := [] } _).symm
    | false => rw [scan_outside (by decide)]; exact (execEof_outside hi).trans (congrArg _ (hout hi).symm)
  · cases hi : s.inside with
    | true =>
      rw [scan_data_inside hb]
      exact (execData_inside hi hfull).trans (by simp [← hi])
    | false => rw [scan_outside (isMarker_false hb).1]; exact (execData_outside hi).trans (congrArg _ (hout hi).symm)

/-- A frame search from any stand of the scanner: the bytes up to the delivery are read one a step, each as `scan` says. -/
theorem run_search {s : State} {p rest : Bytes} {later : List Turn} (hs : s.searching = true)
    (hmax : s.params.payloadMax = none) (hacc : s.inside = false → s.acc = [])
    (hread : readFrame s.inside s.acc s.rxq = some (p, rest))
    (hsched : s.sched = List.replicate (s.rxq.length - rest.length) Turn.rxByte ++ later) :
    run (s.rxq.length - rest.length) s =
      exec (payloadInstr s.cur p) { s with inside := false, acc := [], rxq := rest, sched := later } := by
  generalize hq : s.rxq = q at hread hsched ⊢
  induction q generalizing s with
  | nil => simp [readFrame] at hread
  | cons b q ih =>
    have hlen : rest.length ≤ q.length := Nat.le_of_lt_succ (readFrame_length_lt hread)
    rw [List.length_cons, Nat.succ_sub hlen] at hsched ⊢
    have hstep := (step_scheduled_read hs hq hsched).trans (byteRulesRefineScan _ b hmax hacc)
    obtain ⟨inside, acc, hscan, hacc'⟩ | hscan := scan_cases s.inside s.acc b
    · rw [readFrame_of_scan_none hscan] at hread
      simp only [hscan] at hstep
      rw [run_succ_of_next _ hstep]
      exact ih hs hmax hacc' rfl hread rfl
    · obtain ⟨rfl, rfl⟩ : s.acc = p ∧ q = rest := by simpa [readFrame_of_scan_some hscan q] using hread
      simp only [hscan] at hstep
      simpa [run_one] using hstep

/-! ## The obligations -/

/-- Settles O54: each move of a step keeps the invariant, by `Moved.inv`, and every step is such a move. -/
theorem stepKeepsTheInvariant : Obligations.StepKeepsTheInvariant := by
  intro s t hinv hstep
  exact (step_moved hstep).inv hinv

/-- Settles O15: the awaited payload has a reaction in the handshake and in the drain, and by `PayloadMoved` every reaction keeps
the link queue, the image and the parameters and leaves the scanner outside a frame. -/
theorem eofOfAnAwaitedFrameCompletes : Obligations.EofOfAnAwaitedFrameCompletes := by
  intro s op hi hc hl hawaited
  have hnext : ∃ t, deliver s.acc { s with inside := false, acc := [] } = .next t := by
    by_cases ho : op = .h
    · have hps : s.ps = .commandSent := hawaited.resolve_right fun ⟨_, hne⟩ => hne ho
      exact deliver_of_handshake _ hps (ho ▸ hc)
    · have hs : s.searching = true := (State.searching_iff s).mpr (hawaited.imp_right And.left)
      exact deliver_of_drain _ (State.drainCommand_some hs hc ho) hl
  obtain ⟨t, ht⟩ := hnext
  have hm := payload_moved ht
  obtain ⟨hinside, hacc, hparams⟩ := hm.scanner rfl rfl
  exact ⟨t, (execEof_inside hi).trans ht, hinside, hacc, hm.rxq, hparams, hm.img⟩

/-- Settles O46: both equivalences of `readFrame` with the stream's `HoldsFrame` decompositions. -/
theorem readFrameClosedForm : Obligations.ReadFrameClosedForm := by
  intro stream p rest
  refine ⟨?_, readFrame_eq_none_iff⟩
  rw [readFrame_eq_some_iff]
  exact exists_congr fun before =>
    ⟨fun ⟨hsplit, hp, hb⟩ => ⟨hsplit, hp, hb⟩, fun ⟨hsplit, hp, hb⟩ => ⟨hsplit, hp, hb⟩⟩

/-- Settles O47: `run_search` from a scanner outside a frame. -/
theorem frameSearchDeliversTheFrame : Obligations.FrameSearchDeliversTheFrame := by
  intro s p rest later hs hi ha hmax hread hsched
  have hrun := run_search hs hmax (fun _ => ha) (by rwa [hi, ha]) hsched
  rwa [← hi, ← ha] at hrun

/-- Settles O9: the read failure is the error entry (R215) with the error of the command in flight. -/
theorem stepOfAReadFailure : Obligations.StepOfAReadFailure := by
  intro s op cause h hps hc hq
  rw [step_rxFail_of_enabled h ((State.searching_iff s).mpr hps) ((State.mayFail_iff s cause).mpr hq), State.readFailed,
    State.useTurn_cur, hc, linkError_eq_linkErr]
  rfl

/-- Settles O13: the meaning of `SOF` writes the two registers, whatever the state. -/
theorem sofRestartsTheFrame : Obligations.SofRestartsTheFrame := by
  intro s
  rfl

/-- Settles O14: the payload is delivered by `deliver`, which runs the payload's instruction. -/
theorem eofDeliversThePayload : Obligations.EofDeliversThePayload := by
  intro s
  refine ⟨fun hi => ?_, execEof_outside⟩
  exact (execEof_inside hi).trans (exec_payloadInstr { s with inside := false, acc := [] } s.acc).symm

/-- Settles O16: by the scanner's flag and the accumulator's bound. -/
theorem dataIsAccumulated : Obligations.DataIsAccumulated := by
  intro s b
  refine ⟨fun hi hmax => execData_inside hi (State.accFull_eq_false hmax), fun op hi hmax hc => ?_, execData_outside⟩
  rw [← linkError_eq_linkErr, ← hc]
  exact execData_overflow hi ((State.accFull_iff s).mpr hmax)

end Sys2Proof.Statements
end

section
/-! Command frames (41_frame_tx.md): the bytes of each frame, every command as the issue of its letter, and the stop of a command
or a payload outside its guard. -/

namespace Sys2Proof.Machine

/-! ## Payloads nothing awaits (R142, R156) -/

section
variable {s : State}

theorem State.inHandshake_eq_false (h : ¬ (s.ps = .commandSent ∧ s.cur = some .h)) : s.inHandshake = false :=
  Bool.eq_false_iff.mpr fun hg => h ((State.inHandshake_iff s).mp hg)

theorem execHello_refused (h : s.inHandshake = false) : execHello s = .refused .responseNotAwaited := by
  simp [execHello, h]

theorem execOther_refused (p : Bytes) (h : s.inHandshake = false) : execOther p s = .refused .responseNotAwaited := by
  simp [execOther, h]

/-- No response is drained while no command is in flight, and none for `H` (R156). -/
theorem State.drainCommand_eq_none
    (h : (s.ps ≠ .commandSent ∧ s.ps ≠ .draining) ∨ s.cur = none ∨ s.cur = some .h) : s.drainCommand = none := by
  refine Option.eq_none_iff_forall_ne_some.mpr fun op hd => ?_
  obtain ⟨hs, hc, ho⟩ := State.drainCommand_eq_some.mp hd
  obtain hps | hnone | hh := h
  · simp [State.searching_eq_false hps] at hs
  · simp [hnone] at hc
  · exact ho (Option.some.inj (hc.symm.trans hh))

theorem execOk_refused (h : s.drainCommand = none) : execOk s = .refused .responseNotAwaited := by
  simp [execOk, h]

theorem execError_refused (h : s.drainCommand = none) : execError s = .refused .responseNotAwaited := by
  simp [execError, h]

theorem execInvalid_refused (p : Bytes) (h : s.drainCommand = none) :
    execInvalid p s = .refused .responseNotAwaited := by
  simp [execInvalid, h]

theorem execRecord_refused (a d : Bytes) (h : s.drainCommand = none) :
    execRecord a d s = .refused .responseNotAwaited := by
  simp [execRecord, h]

end

end Sys2Proof.Machine

namespace Sys2Proof.Statements

open Sys2Proof.Machine

/-! ## The six commands -/

/-- A command without an argument is the issue of its letter, and its frame is the letter's code between the markers (R83, R84). -/
theorem exec_simpleCommand {i : Instr} {letter : Letter} {code : Byte} (h : (i, letter, code) ∈ simpleCommands) :
    (∀ s, exec i s = issue letter [] s) ∧ frame letter [] = [0x3C#8, code, 0x3D#8] := by
  simp only [simpleCommands, List.mem_cons, List.not_mem_nil, or_false, Prod.mk.injEq] at h
  obtain ⟨rfl, rfl, rfl⟩ | ⟨rfl, rfl, rfl⟩ | ⟨rfl, rfl, rfl⟩ | ⟨rfl, rfl, rfl⟩ | ⟨rfl, rfl, rfl⟩ := h <;>
    exact ⟨fun _ => rfl, rfl⟩

theorem exec_w (a : Addr) (d : Byte) (s : State) : exec (.w a d) s = issue .w (wArg a d) s := rfl

/-- The frame of a `W` carries its address high byte first (R60, R85). -/
theorem frame_wArg (a : Addr) (d : Byte) : frame .w (wArg a d) = wFrame a.toNat d := by
  have hhigh : a.extractLsb' 8 8 = BitVec.ofNat 8 (a.toNat / 256) := by
    simp [BitVec.extractLsb', Nat.shiftRight_eq_div_pow]
  have hlow : a.extractLsb' 0 8 = BitVec.ofNat 8 (a.toNat % 256) := by
    apply BitVec.eq_of_toNat_eq
    simp
  rw [wArg, hhigh, hlow]
  rfl

/-! ## The obligations -/

/-- Settles O17: each command is the issue of its letter, and an issue whose write is answered `Done` leaves `State.issued`. -/
theorem commandsAreIssued : Obligations.CommandsAreIssued := by
  intro s hi ha
  refine ⟨fun i letter code hmem => ?_, fun a d => ?_⟩
  · obtain ⟨hexec, hframe⟩ := exec_simpleCommand hmem
    rw [hexec, issue_done letter [] hi ha, State.issued, hframe]
    rfl
  · rw [exec_w, issue_done .w (wArg a d) hi ha, State.issued, frame_wArg]
    rfl

/-- Settles O18: each command is the issue of its letter, and an issue whose write failed leaves `State.issueFailed`. -/
theorem failedCommandWriteRaises : Obligations.FailedCommandWriteRaises := by
  intro s cause hi ha
  refine ⟨fun i letter code hmem => ?_, fun a d => ?_⟩
  · obtain ⟨hexec, -⟩ := exec_simpleCommand hmem
    rw [hexec, issue_fail letter [] hi ha, State.issueFailed, linkError_eq_linkErr]
    rfl
  · exact issue_fail .w (wArg a d) hi ha

/-- Settles O19: an issue outside `Idle`, a handshake payload and a drain payload, each without its guard. -/
theorem rulesOutsideTheirGuardStop : Obligations.RulesOutsideTheirGuardStop := by
  intro s
  refine ⟨fun hi => ⟨fun i letter code hmem => ?_, fun a d => issue_refused .w (wArg a d) hi⟩, fun h => ?_, fun h => ?_⟩
  · obtain ⟨hexec, -⟩ := exec_simpleCommand hmem
    rw [hexec, issue_refused letter [] hi]
  · have hg : s.inHandshake = false := State.inHandshake_eq_false h
    exact ⟨execHello_refused hg, fun p => execOther_refused p hg⟩
  · have hd : s.drainCommand = none := State.drainCommand_eq_none h
    exact ⟨execOk_refused hd, execError_refused hd, fun p => execInvalid_refused p hd, fun a d => execRecord_refused a d hd⟩

end Sys2Proof.Statements
end

section
/-! The startup and the handshake (42_startup_handshake.md): the accepted `START` and `CHECK_CONNECTION`, and the two reactions
to the handshake's payload. -/

namespace Sys2Proof.Machine

section
variable {s : State}

/-! ## The handshake's payload (R143, R144) -/

theorem execHello_of_handshake (h : s.inHandshake = true) :
    execHello s = .next (State.report { s with hs := true, ps := .idle } .success) := by
  simp [execHello, h]

theorem execOther_of_handshake (p : Bytes) (h : s.inHandshake = true) :
    execOther p s = .next (s.raise (.connectionError (.badPayload p))) := by
  simp [execOther, h]

/-! ## The accepted requests (R140, R141) -/

theorem State.startRefusal_of_unstarted (h : s.ps = .unstarted) : s.startRefusal = none := by
  simp [State.startRefusal, h]

theorem State.checkRefusal_of_idle (h : s.ps = .idle) : s.checkRefusal = none := by
  simp [State.checkRefusal, h]

theorem execStart_of_unstarted (h : s.ps = .unstarted) :
    execStart s = .next (State.report { s.rxFlush with inside := false, acc := [], ps := .idle } .success) := by
  simp [execStart, State.startRefusal_of_unstarted h]

theorem execCheckConnection_of_idle (h : s.ps = .idle) : execCheckConnection s = issue .h [] s := by
  simp [execCheckConnection, State.checkRefusal_of_idle h, execH]

end

end Sys2Proof.Machine

namespace Sys2Proof.Statements

open Sys2Proof.Machine

/-! ## The obligations -/

/-- Settles O20: the handshake is awaited, so `HELLO` takes its accepting branch. -/
theorem helloEndsTheHandshake : Obligations.HelloEndsTheHandshake := by
  intro s hps hcur
  have hg : s.inHandshake = true := (State.inHandshake_iff s).mpr ⟨hps, hcur⟩
  exact execHello_of_handshake hg

/-- Settles O21: the handshake is awaited, so any other payload is the error entry (R215) with that payload. -/
theorem otherPayloadIsAConnectionError : Obligations.OtherPayloadIsAConnectionError := by
  intro s p hps hcur
  have hg : s.inHandshake = true := (State.inHandshake_iff s).mpr ⟨hps, hcur⟩
  exact execOther_of_handshake p hg

/-- Settles O27: before the start nothing refuses `START`, and its drain empties the queue without running the scanner. -/
theorem startDrainsTheLink : Obligations.StartDrainsTheLink := by
  intro s hps
  exact execStart_of_unstarted hps

/-- Settles O28: from `Idle` the request is the issue of `H`, which leaves `State.issued` or `State.issueFailed` by the answer. -/
theorem checkConnectionIssuesHello : Obligations.CheckConnectionIssuesHello := by
  intro s hps
  have hissue : exec .checkConnection s = issue .h [] s := execCheckConnection_of_idle hps
  refine ⟨fun ha => ?_, fun cause ha => ?_⟩
  · rw [hissue, issue_done .h [] hps ha]
    rfl
  · rw [hissue, issue_fail .h [] hps ha]
    rfl

end Sys2Proof.Statements
end

section
/-! The response drain (43_response_drain.md): the four reactions to a drain payload, the text of a response 16 columns to a line,
and a whole response read byte by byte. -/

namespace Sys2Proof.Machine

/-! ## The command being drained, the end of its operation and the column counter (R156, R158, R165) -/

theorem State.drainCommand_of_ps {s : State} {op : Letter} (hps : s.ps = .commandSent ∨ s.ps = .draining)
    (hc : s.cur = some op) (ho : op ≠ .h) : s.drainCommand = some op :=
  State.drainCommand_some ((State.searching_iff s).mpr hps) hc ho

theorem execOk_ends {v : State} {op : Letter} (hd : v.drainCommand = some op) (hm : ¬ (op = .w ∧ v.moreImage = true)) :
    execOk v = .next (State.report { v with ps := .idle } .success) := by
  simp only [execOk, hd, if_neg hm]

theorem nextPos_eq_ofNat (pos : BitVec 4) : nextPos pos = BitVec.ofNat 4 (pos.toNat + 1) := by
  simp [nextPos, BitVec.ofNat_add]

end Sys2Proof.Machine

namespace Sys2Proof.Statements

open Sys2Proof.Machine

/-! ## The reactions to one payload -/

/-- Settles O22: the drain's command has no image byte left, so `OK` takes its ending branch. -/
theorem okEndsTheOperation : Obligations.OkEndsTheOperation := by
  intro s op hps hc ho hm
  rw [← State.moreImage_iff] at hm
  exact execOk_ends (State.drainCommand_of_ps hps hc ho) hm

/-- Settles O24: the drain's command makes `ERROR` the error entry (R215). -/
theorem errorIsADeviceError : Obligations.ErrorIsADeviceError := by
  intro s op hps hc ho
  exact execError_of_drain (State.drainCommand_of_ps hps hc ho)

/-- Settles O25: the drain's command makes an invalid payload the error entry (R215) with that payload. -/
theorem invalidPayloadIsAnError : Obligations.InvalidPayloadIsAnError := by
  intro s op p hps hc ho
  exact execInvalid_of_drain p (State.drainCommand_of_ps hps hc ho)

/-- Settles O26: the drain's command prints the record, the text and the column read as numbers. -/
theorem recordIsPrinted : Obligations.RecordIsPrinted := by
  intro s op a d hps hc ho
  rw [← recordText_eq_textAt, ← nextPos_eq_ofNat]
  exact execRecord_of_drain a d (State.drainCommand_of_ps hps hc ho)

/-! ## The text of a response, 16 columns to a line (R165, R166) -/

theorem textAt_congr {k m : Nat} (h : k % 16 = m % 16) (params : Params) (op : Letter) (a d : Bytes) :
    textAt params op k a d = textAt params op m a d := by
  simp only [textAt, h]

/-- Only the column of the first record counts, not how many lines stand before it. -/
theorem responseText_congr {k m : Nat} (h : k % 16 = m % 16) (params : Params) (op : Letter) (records : List (Bytes × Bytes)) :
    responseText params op k records = responseText params op m records := by
  induction records generalizing k m with
  | nil => rfl
  | cons r records ih =>
    have hnext : (k + 1) % 16 = (m + 1) % 16 := Nat.ModEq.add_right 1 h
    simp only [responseText, textAt_congr h, ih hnext]

/-! ## One frame of a response -/

/-- The block waits, outside a frame and with an unbounded accumulator, for a frame of the response that it drains for `op`. -/
structure AwaitsFrame (s : State) (op : Letter) : Prop where
  /-- The command is in flight. -/
  searching : s.searching = true
  /-- It is `op`. -/
  cur : s.cur = some op
  /-- Its response is drained, not the handshake's. -/
  ne_h : op ≠ .h
  /-- The scanner is outside a frame. -/
  inside : s.inside = false
  /-- Nothing is accumulated. -/
  acc : s.acc = []
  /-- The accumulator is unbounded. -/
  unbounded : s.params.payloadMax = none

theorem AwaitsFrame.ps {s : State} {op : Letter} (h : AwaitsFrame s op) : s.ps = .commandSent ∨ s.ps = .draining :=
  (State.searching_iff s).mp h.searching

theorem AwaitsFrame.payloadInstr {s : State} {op : Letter} (h : AwaitsFrame s op) (p : Bytes) :
    payloadInstr s.cur p = decodeDrain p := by
  simp [Statements.payloadInstr, h.cur, h.ne_h]

theorem readFrame_rspFrame {p : Bytes} (hp : noMarker p = true) (rest : Bytes) :
    readFrame false [] (rspFrame p ++ rest) = some (p, rest) :=
  HoldsFrame.readFrame_eq (before := []) ⟨by simp [rspFrame, Config.SOF, Config.EOF], hp, by simp [fromStart]⟩

/-- A response frame at the head of the queue, read byte by byte, runs the drain's instruction of its payload. -/
theorem run_rspFrame {s : State} {op : Letter} {p rest : Bytes} {later : List Turn} (h : AwaitsFrame s op)
    (hp : noMarker p = true) (hq : s.rxq = rspFrame p ++ rest)
    (hsched : s.sched = List.replicate (rspFrame p).length Turn.rxByte ++ later) :
    run (rspFrame p).length s = exec (decodeDrain p) { s with rxq := rest, sched := later } := by
  have hlen : s.rxq.length - rest.length = (rspFrame p).length := by simp [hq]
  have hrun := frameSearchDeliversTheFrame s p rest later h.searching h.inside h.acc h.unbounded
    (hq ▸ readFrame_rspFrame hp rest) (hlen ▸ hsched)
  rwa [hlen, h.payloadInstr] at hrun

theorem IsRecord.noMarker_payload {r : Bytes × Bytes} (h : IsRecord r) : noMarker (recordPayload r) = true := by
  obtain ⟨ha, hd, -, -⟩ := h
  have hsep : noMarker [0x3A#8] = true := rfl
  simp only [recordPayload, noMarker_append, ha, hd, hsep, Bool.and_self]

theorem IsRecord.decodeDrain_payload {r : Bytes × Bytes} (h : IsRecord r) :
    decodeDrain (recordPayload r) = .record r.1 r.2 := by
  obtain ⟨-, -, ha, hd⟩ := h
  rw [recordPayload, List.append_assoc]
  exact decodeDrain_record ha hd

/-! ## The whole response -/

/-- The bytes of a response of records and `OK`. -/
def responseBytes (records : List (Bytes × Bytes)) : Bytes :=
  (records.map (fun r => rspFrame (recordPayload r))).flatten ++ rspFrame [0x4F#8, 0x4B#8]

theorem responseBytes_nil : responseBytes [] = rspFrame Config.okText := rfl

theorem responseBytes_cons (r : Bytes × Bytes) (records : List (Bytes × Bytes)) :
    responseBytes (r :: records) = rspFrame (recordPayload r) ++ responseBytes records := by
  simp [responseBytes]

/-- What a response of records and `OK` leaves: their text printed, the operation ended (R158, R162). -/
def responded (s : State) (op : Letter) (records : List (Bytes × Bytes)) (rest : Bytes) (later : List Turn) : State :=
  { s with
    sink := s.sink ++ responseText s.params op s.pos.toNat records
    pos := BitVec.ofNat 4 (s.pos.toNat + records.length)
    ps := .idle
    results := s.results ++ [.success]
    rxq := rest
    sched := later }

/-- What the first record of a response leaves, `q` and `turns` still to come. -/
def recordRead (s : State) (op : Letter) (r : Bytes × Bytes) (q : Bytes) (turns : List Turn) : State :=
  { s with
    sink := s.sink ++ textAt s.params op s.pos.toNat r.1 r.2
    pos := BitVec.ofNat 4 (s.pos.toNat + 1)
    ps := .draining
    rxq := q
    sched := turns }

theorem AwaitsFrame.recordRead {s : State} {op : Letter} (h : AwaitsFrame s op) (r : Bytes × Bytes) (q : Bytes)
    (turns : List Turn) : AwaitsFrame (recordRead s op r q turns) op :=
  { h with searching := rfl }

theorem responded_nil (s : State) (op : Letter) (rest : Bytes) (later : List Turn) :
    responded s op [] rest later =
      { s with ps := .idle, results := s.results ++ [.success], rxq := rest, sched := later } := by
  simp [responded, responseText]

/-- The records after the first print from its next column on. -/
theorem responded_recordRead (s : State) (op : Letter) (r : Bytes × Bytes) (records : List (Bytes × Bytes)) (q rest : Bytes)
    (turns later : List Turn) :
    responded (recordRead s op r q turns) op records rest later = responded s op (r :: records) rest later := by
  have hcol : (BitVec.ofNat 4 (s.pos.toNat + 1)).toNat % 16 = (s.pos.toNat + 1) % 16 := by simp
  have hpos : BitVec.ofNat 4 ((BitVec.ofNat 4 (s.pos.toNat + 1)).toNat + records.length) =
      BitVec.ofNat 4 (s.pos.toNat + (r :: records).length) := by
    apply BitVec.eq_of_toNat_eq
    simp [Nat.add_assoc, Nat.add_comm 1]
  simp only [responded, recordRead, hpos, responseText_congr hcol, responseText, List.append_assoc]

/-- A response of records and `OK`, read byte by byte: each record is printed and the drain goes on, `OK` ends it. -/
theorem run_response {s : State} {op : Letter} {records : List (Bytes × Bytes)} {rest : Bytes} {later : List Turn}
    (h : AwaitsFrame s op) (hm : ¬ (op = .w ∧ s.wrIdx.toNat + 1 < s.img.length)) (hr : ∀ r ∈ records, IsRecord r)
    (hq : s.rxq = responseBytes records ++ rest)
    (hsched : s.sched = List.replicate (responseBytes records).length Turn.rxByte ++ later) :
    run (responseBytes records).length s = .next (responded s op records rest later) := by
  induction records generalizing s with
  | nil =>
    rw [responded_nil]
    exact (run_rspFrame h rfl hq hsched).trans (okEndsTheOperation _ op h.ps h.cur h.ne_h hm)
  | cons r records ih =>
    obtain ⟨hrec, hrecords⟩ := List.forall_mem_cons.mp hr
    rw [responseBytes_cons, List.append_assoc] at hq
    rw [responseBytes_cons, List.length_append, List.replicate_add, List.append_assoc] at hsched
    have hfirst := run_rspFrame h hrec.noMarker_payload hq hsched
    rw [hrec.decodeDrain_payload] at hfirst
    have hread := hfirst.trans (recordIsPrinted _ op r.1 r.2 h.ps h.cur h.ne_h)
    rw [responseBytes_cons, List.length_append, run_add _ hread, ← responded_recordRead]
    exact ih (h.recordRead r _ _) hm hrecords rfl rfl

/-- Settles O49: `run_response` from any state that awaits the frames of the response. -/
theorem responseOfRecordsIsPrinted : Obligations.ResponseOfRecordsIsPrinted := by
  intro s op records rest later hs hc ho hi ha hmax hm hr bytes hq hsched
  exact run_response ⟨hs, hc, ho, hi, ha, hmax⟩ hm hr hq hsched

end Sys2Proof.Statements
end

section
/-! The simple operations (44_simple_and_read.md): the accepted `READ`, `CLEAR`, `LOCK` and `UNLOCK`. -/

namespace Sys2Proof.Machine

theorem State.operationRefusal_eq_none {s : State} (hi : s.ps = .idle) (hh : s.hs = true) : s.operationRefusal = none := by
  simp [State.operationRefusal, hi, hh]

end Sys2Proof.Machine

namespace Sys2Proof.Statements

open Sys2Proof.Machine

theorem operations_ne_h {r : Request} {letter : Letter} {code : Byte} (h : (r, letter, code) ∈ operations) : letter ≠ .h := by
  simp only [operations, List.mem_cons, List.not_mem_nil, or_false, Prod.mk.injEq] at h
  obtain ⟨-, rfl, -⟩ | ⟨-, rfl, -⟩ | ⟨-, rfl, -⟩ | ⟨-, rfl, -⟩ := h <;> decide

/-- A link failure outside the handshake is a `TransportError` (R133 for a failed write). -/
theorem linkErr_of_ne_h {letter : Letter} (h : letter ≠ .h) (cause : LinkCause) :
    linkErr letter cause = .transportError cause := by
  simp [linkErr, h]

/-- An operation that nothing refuses runs the command of its letter (R176 to R179). -/
theorem exec_operation {s : State} {r : Request} {letter : Letter} {code : Byte} (h : (r, letter, code) ∈ operations)
    (hg : s.operationRefusal = none) : ∃ i, (i, letter, code) ∈ simpleCommands ∧ exec (decodeRequest r) s = exec i s := by
  simp only [operations, List.mem_cons, List.not_mem_nil, or_false, Prod.mk.injEq] at h
  obtain ⟨rfl, rfl, rfl⟩ | ⟨rfl, rfl, rfl⟩ | ⟨rfl, rfl, rfl⟩ | ⟨rfl, rfl, rfl⟩ := h
  · exact ⟨.r, by decide, by simp [decodeRequest, exec, execRead, hg]⟩
  · exact ⟨.c, by decide, by simp [decodeRequest, exec, execClear, hg]⟩
  · exact ⟨.l, by decide, by simp [decodeRequest, exec, execLock, hg]⟩
  · exact ⟨.u, by decide, by simp [decodeRequest, exec, execUnlock, hg]⟩

/-! ## The obligation -/

/-- Settles O29: nothing refuses the operation, so it runs the command of its letter, whose two answers are O17 and O18. -/
theorem operationsIssueTheirCommand : Obligations.OperationsIssueTheirCommand := by
  intro s r letter code hmem hi hh
  obtain ⟨i, hcommand, hrun⟩ := exec_operation hmem (State.operationRefusal_eq_none hi hh)
  refine ⟨fun ha => ?_, fun cause ha => ?_⟩
  · obtain ⟨hissued, -⟩ := commandsAreIssued s hi ha
    exact hrun.trans (hissued i letter code hcommand)
  · obtain ⟨hfailed, -⟩ := failedCommandWriteRaises s cause hi ha
    rw [hrun, hfailed i letter code hcommand, linkErr_of_ne_h (operations_ne_h hmem)]

end Sys2Proof.Statements
end

section
/-! The write operation (45_write.md): the accepted `WRITE`, the `OK` that sends the next byte, and whole write runs, each byte
acknowledged by `OK` alone. -/

namespace Sys2Proof.Machine

/-! ## The next byte of a write (R194, R198) -/

/-- An index below the largest image's length is its own 16-bit address (R198). -/
theorem toNat_index {n : Nat} (h : n < 65536) : (BitVec.ofNat 16 n).toNat = n := by
  rw [BitVec.toNat_ofNat, Nat.mod_eq_of_lt h]

theorem State.nextIdx_eq_ofNat (s : State) : s.nextIdx = BitVec.ofNat 16 (s.wrIdx.toNat + 1) := by
  simp [State.nextIdx, BitVec.ofNat_add]

theorem execOk_next {v : State} (hd : v.drainCommand = some .w) (hm : v.moreImage = true) :
    execOk v = issueW (BitVec.ofNat 16 (v.wrIdx.toNat + 1))
      { v with ps := .idle, wrIdx := BitVec.ofNat 16 (v.wrIdx.toNat + 1) } := by
  simp only [execOk, hd, hm, and_self, if_true, State.nextIdx_eq_ofNat]

/-! ## The request `WRITE` (R193, R221) -/

section
variable {s : State} {image : Bytes}

theorem State.writeRefusal_eq_none (hi : s.ps = .idle) (hh : s.hs = true) (hl : image.length ≤ Config.imageMax) :
    s.writeRefusal image = none := by
  simp [State.writeRefusal, hi, hh, hl]

theorem State.writeRefusal_imageTooLong (hi : s.ps = .idle) (hh : s.hs = true) (hl : Config.imageMax < image.length) :
    s.writeRefusal image = some .imageTooLong := by
  simp [State.writeRefusal, hi, hh, hl]

theorem execWrite_nil (hg : s.writeRefusal [] = none) :
    execWrite [] s = .next (State.report { s with img := [], wrIdx := 0#16 } .success) := by
  simp [execWrite, hg]

theorem execWrite_of_ne_nil (hg : s.writeRefusal image = none) (hne : image ≠ []) :
    execWrite image s = issueW 0#16 { s with img := image, wrIdx := 0#16 } := by
  simp [execWrite, hg, hne]

theorem execWrite_refused {reason : Reason} (hg : s.writeRefusal image = some reason) :
    execWrite image s = .next (s.refuse reason) := by
  simp [execWrite, hg]

end

end Sys2Proof.Machine

namespace Sys2Proof.Statements

open Sys2Proof.Machine

/-! ## The `W` of one image byte, by the answer to its write (R191, R131, R133) -/

section
variable {u : State} {n : Nat} {d : Byte}

theorem issueW_ofNat (hn : n < 65536) (hd : u.img[n]? = some d) :
    issueW (BitVec.ofNat 16 n) u = exec (.w (BitVec.ofNat 16 n) d) u :=
  issueW_some (by rwa [State.memRead, toNat_index hn])

theorem issueW_sends (hi : u.ps = .idle) (ha : u.nextTxAnswer = .done) (hn : n < 65536) (hd : u.img[n]? = some d) :
    issueW (BitVec.ofNat 16 n) u = .next { u.useTxAnswer with
      tx := u.tx ++ [wFrame n d]
      cur := some .w, pos := 0#4, inside := false, acc := [], ps := .commandSent } := by
  obtain ⟨-, hsent⟩ := commandsAreIssued u hi ha
  rw [issueW_ofNat hn hd, hsent, toNat_index hn]

theorem issueW_raises {cause : WriteCause} (hi : u.ps = .idle) (ha : u.nextTxAnswer = .fail cause) (hn : n < 65536)
    (hd : u.img[n]? = some d) :
    issueW (BitVec.ofNat 16 n) u = .next { u.useTxAnswer with
      cur := some .w, ps := .failed
      err := some (.transportError (.writeFailed cause))
      results := u.results ++ [.error (.transportError (.writeFailed cause))] } := by
  obtain ⟨-, hfailed⟩ := failedCommandWriteRaises u cause hi ha
  rw [issueW_ofNat hn hd, hfailed]

end

/-! ## One step of a write -/

/-- Settles O23: the image has a next byte, so `OK` issues its `W` from `Idle`, the index already advanced. -/
theorem okSendsTheNextByte : Obligations.OkSendsTheNextByte := by
  intro s d hps hc hl hd
  obtain ⟨hlt, -⟩ := List.getElem?_eq_some_iff.mp hd
  have hn : s.wrIdx.toNat + 1 < 65536 := hlt.trans_le hl
  have hexec := execOk_next (State.drainCommand_of_ps hps hc (by decide)) ((State.moreImage_iff s).mpr hlt)
  refine ⟨fun ha => ?_, fun cause ha => ?_⟩
  · have hsent := hexec.trans (issueW_sends rfl ha hn hd)
    rwa [← hc] at hsent
  · have hfailed := hexec.trans (issueW_raises rfl ha hn hd)
    rwa [← hc] at hfailed

/-- Settles O30: the two lengths that send nothing by `execWrite` itself, any other image by the `W` of its byte 0. -/
theorem writeLatchesAndSendsTheFirstByte : Obligations.WriteLatchesAndSendsTheFirstByte := by
  intro s image hi hh
  refine ⟨?_, fun d hd hl ha => ?_, fun cause hne hl ha => ?_, fun hl => ?_⟩
  · rintro rfl
    exact execWrite_nil (State.writeRefusal_eq_none hi hh (Nat.zero_le _))
  · have hne : image ≠ [] := by rintro rfl; cases hd
    exact (execWrite_of_ne_nil (State.writeRefusal_eq_none hi hh hl) hne).trans
      (issueW_sends hi ha (by decide) (List.head?_eq_getElem? ▸ hd))
  · exact (execWrite_of_ne_nil (State.writeRefusal_eq_none hi hh hl) hne).trans
      (issueW_raises hi ha (by decide) (List.getElem?_eq_getElem (List.length_pos_iff.mpr hne)))
  · exact execWrite_refused (State.writeRefusal_imageTooLong hi hh hl)

/-! ## A write under way -/

/-- The frames of the image's bytes 0, 1, … in order, each at its own address (R199). -/
def wFrames (image : Bytes) : List Bytes := image.mapIdx fun i d => wFrame i d

theorem wFrames_take_succ {image : Bytes} {k : Nat} {d : Byte} (hd : image[k]? = some d) :
    wFrames (image.take (k + 1)) = wFrames (image.take k) ++ [wFrame k d] := by
  obtain ⟨hk, -⟩ := List.getElem?_eq_some_iff.mp hd
  simp [wFrames, List.take_add_one, hd, List.mapIdx_append, Nat.min_eq_left hk.le]

/-- A `WRITE` of `image` made in `s`, once the frame of byte `k` is written and waits for its response: the bytes, the turns and
the answers to come are `q`, `turns` and `answers`. -/
def byteInFlight (s : State) (image : Bytes) (k : Nat) (q : Bytes) (turns : List Turn) (answers : List TxAnswer) : State :=
  { s with
    img := image
    wrIdx := BitVec.ofNat 16 k
    tx := s.tx ++ wFrames (image.take (k + 1))
    cur := some .w, pos := 0#4, inside := false, acc := [], ps := .commandSent
    rxq := q
    sched := turns
    txAnswers := answers }

section
variable {s : State} {image rest : Bytes} {k : Nat} {later : List Turn} {answers : List TxAnswer}

/-- The response to byte `k`, read byte by byte, runs the drain's instruction of its payload. -/
theorem run_response_to_byte (hmax : s.params.payloadMax = none) {p : Bytes} (hp : noMarker p = true) :
    run (rspFrame p).length (byteInFlight s image k (rspFrame p ++ rest)
        (List.replicate (rspFrame p).length Turn.rxByte ++ later) answers) =
      exec (decodeDrain p) (byteInFlight s image k rest later answers) :=
  run_rspFrame ⟨rfl, rfl, by decide, rfl, rfl, hmax⟩ hp rfl rfl

/-- The request writes the frame of byte 0 in its own step (R193). -/
theorem step_write (hi : s.ps = .idle) (hh : s.hs = true) (hne : image ≠ []) (hl : image.length ≤ 65536)
    (ha : s.txAnswers = .done :: answers) (hsched : s.sched = .request (.write image) :: later) :
    step s = .next (byteInFlight s image 0 s.rxq later answers) := by
  have hd : image.head? = some (image.head hne) := List.head?_eq_some_head hne
  have hframes : wFrames (image.take 1) = [wFrame 0 (image.head hne)] := wFrames_take_succ (List.head?_eq_getElem? ▸ hd)
  obtain ⟨-, hsent, -⟩ := writeLatchesAndSendsTheFirstByte { s with sched := later } image hi hh
  rw [step_request (State.nextTurn_of_cons hsched), State.useTurn_of_cons hsched, byteInFlight, hframes]
  refine (hsent _ hd hl (State.nextTxAnswer_of_cons ha)).trans ?_
  rw [State.useTxAnswer_of_cons (s := { s with sched := later }) ha]
  rfl

/-- An `OK` for byte `k`, read byte by byte, writes the frame of byte `k + 1` with its last byte (R194). -/
theorem run_ok_byteInFlight (hmax : s.params.payloadMax = none) (hk : k + 1 < image.length) (hl : image.length ≤ 65536) :
    run 4 (byteInFlight s image k (rspFrame Config.okText ++ rest) (List.replicate 4 Turn.rxByte ++ later) (.done :: answers)) =
      .next (byteInFlight s image (k + 1) rest later answers) := by
  have hidx : (BitVec.ofNat 16 k).toNat = k := toNat_index (by omega)
  have hd : image[k + 1]? = some image[k + 1] := List.getElem?_eq_getElem hk
  obtain ⟨hsent, -⟩ := okSendsTheNextByte (byteInFlight s image k rest later (.done :: answers)) image[k + 1] (.inl rfl) rfl
    hl (by rwa [byteInFlight, hidx])
  refine (run_response_to_byte hmax (p := Config.okText) rfl).trans ((hsent rfl).trans ?_)
  simp only [byteInFlight, hidx, wFrames_take_succ hd, ← List.append_assoc]
  rfl

/-- The request and `k` acknowledgments by `OK` alone leave byte `k` in flight (R199). -/
theorem run_acknowledged (hi : s.ps = .idle) (hh : s.hs = true) (hmax : s.params.payloadMax = none) (hk : k < image.length)
    (hl : image.length ≤ 65536) (ha : s.txAnswers = List.replicate (k + 1) TxAnswer.done ++ answers)
    (hq : s.rxq = (List.replicate k (rspFrame Config.okText)).flatten ++ rest)
    (hsched : s.sched = Turn.request (.write image) :: List.replicate (4 * k) Turn.rxByte ++ later) :
    run (1 + 4 * k) s = .next (byteInFlight s image k rest later answers) := by
  induction k generalizing rest later answers with
  | zero =>
    obtain rfl : s.rxq = rest := hq
    exact (run_one s).trans (step_write hi hh (List.length_pos_iff.mp hk) hl ha hsched)
  | succ k ih =>
    rw [List.replicate_succ', List.append_assoc] at ha
    rw [List.replicate_succ', List.flatten_concat, List.append_assoc] at hq
    rw [Nat.mul_succ, List.replicate_add, ← List.cons_append, List.append_assoc] at hsched
    have hfirst := ih (Nat.lt_of_succ_lt hk) ha hq hsched
    rw [Nat.mul_succ, ← Nat.add_assoc, run_add 4 hfirst]
    exact run_ok_byteInFlight hmax hk hl

end

/-! ## Whole write runs -/

/-- Settles O51: the acknowledgments of all bytes but the last leave the last byte in flight, whose `OK` ends the operation. -/
theorem writeSendsTheWholeImage : Obligations.WriteSendsTheWholeImage := by
  intro s image rest later answers hi hh hmax hne hl ha hq hsched
  obtain ⟨n, hn⟩ : ∃ n, image.length = n + 1 := Nat.exists_eq_succ_of_ne_zero (List.length_pos_iff.mpr hne).ne'
  rw [hn] at ha hq hsched
  rw [List.replicate_succ', List.flatten_concat, List.append_assoc] at hq
  rw [Nat.mul_succ, List.replicate_add, ← List.cons_append, List.append_assoc] at hsched
  have hlast : ¬ (Letter.w = .w ∧ (BitVec.ofNat 16 n).toNat + 1 < image.length) := by
    rw [toNat_index (by omega)]
    omega
  have hsent := run_acknowledged hi hh hmax (by omega) hl ha hq hsched
  have hend := okEndsTheOperation (byteInFlight s image n rest later answers) .w (.inl rfl) rfl (by decide) hlast
  have hframes : wFrames (image.take (n + 1)) = wFrames image := by rw [← hn, List.take_length]
  rw [hn, Nat.mul_succ, ← Nat.add_assoc, run_add 4 hsent]
  refine (run_response_to_byte hmax (p := Config.okText) rfl).trans (hend.trans ?_)
  rw [byteInFlight, hframes]
  rfl

/-- Settles O52: the acknowledgments before it leave byte `k` in flight, whose `ERROR` is the error entry (R215). -/
theorem writeAbortsAtTheFirstError : Obligations.WriteAbortsAtTheFirstError := by
  intro s image rest k later answers hi hh hmax hk hl ha hq hsched
  rw [List.append_assoc] at hq
  rw [List.replicate_add, ← List.cons_append, List.append_assoc] at hsched
  have hsent := run_acknowledged hi hh hmax hk hl ha hq hsched
  have hend := errorIsADeviceError (byteInFlight s image k rest later answers) .w (.inl rfl) rfl (by decide)
  rw [← Nat.add_assoc, run_add 7 hsent]
  exact (run_response_to_byte hmax (p := Config.errorText) rfl).trans hend

end Sys2Proof.Statements
end

section
/-! Errors, refusals and the end of a run (60_exceptions.md): the table of refusals and what it leaves of each request, the error
entry of a step that fails the run, what a step can do while nothing is in flight, and a next state for every step. -/

namespace Sys2Proof.Machine

section
variable {s : State} {r : Request}

/-! ## A refused request (R220) -/

/-- A refused request reports its refusal, whichever request it is. -/
theorem exec_of_refused {reason : Reason} (h : s.refusalOf r = some reason) :
    exec (decodeRequest r) s = .next (s.refuse reason) := by
  cases r with
  | start =>
    have hg : s.startRefusal = some reason := h
    simp [decodeRequest, exec, execStart, hg]
  | checkConnection =>
    have hg : s.checkRefusal = some reason := h
    simp [decodeRequest, exec, execCheckConnection, hg]
  | read | clear | lock | unlock =>
    have hg : s.operationRefusal = some reason := h
    simp [decodeRequest, exec, execRead, execClear, execLock, execUnlock, hg]
  | write image => exact execWrite_refused h
  | shutdown =>
    have hg : s.shutdownRefusal = some reason := h
    simp [decodeRequest, exec, execShutdown, hg]

/-! ## An accepted request -/

theorem State.shutdownRefusal_eq_none (h : s.ps = .unstarted ∨ s.ps = .idle ∨ s.ps = .failed) :
    s.shutdownRefusal = none := by
  obtain hps | hps | hps := h <;> simp [State.shutdownRefusal, hps]

theorem execShutdown_of_accepted (hg : s.shutdownRefusal = none) :
    execShutdown s = .next (State.report { s with ps := .closed } .success) := by
  simp [execShutdown, hg]

/-- An accepted request of a command without an argument is the issue of its letter (R141, R176 to R179). -/
theorem exec_of_requestLetter {letter : Letter} {needs : Bool} (hr : requestLetter r = some (letter, needs))
    (h : s.refusalOf r = none) : exec (decodeRequest r) s = issue letter [] s := by
  cases r with
  | checkConnection =>
    have hg : s.checkRefusal = none := h
    cases hr
    simp [decodeRequest, exec, execCheckConnection, execH, hg]
  | read | clear | lock | unlock =>
    have hg : s.operationRefusal = none := h
    cases hr
    simp [decodeRequest, exec, execRead, execClear, execLock, execUnlock, execR, execC, execL, execU, hg]
  | start | write | shutdown => cases hr

/-- An accepted request reports nothing, or a result that is no refusal. -/
theorem RequestMoved.results_of_accepted {t : State} (hm : RequestMoved s r t) (h : s.refusalOf r = none) :
    t.results = s.results ∨ ∃ x : Result, t.results = s.results ++ [x] ∧ ∀ reason, x ≠ .refused reason := by
  cases hm with
  | refused hg => simp [h] at hg
  | issued | writeIssued => exact .inl rfl
  | started | wroteNothing | closed | issueFailed | writeFailed =>
    exact .inr ⟨_, rfl, fun _ => Result.noConfusion⟩

end

/-! ## The error entry (R215) -/

/-- From `s` to `t` one error is recorded and reported, and what was printed and sent, the handshake flag and the column stay. -/
def ErrorEntered (s t : State) : Prop :=
  ∃ e, t.err = some e ∧ t.results = s.results ++ [.error e] ∧ t.sink = s.sink ∧ t.tx = s.tx ∧ t.hs = s.hs ∧ t.pos = s.pos

theorem errorEntered_raise (s : State) (e : Err) : ErrorEntered s (s.raise e) :=
  ⟨e, rfl, rfl, rfl, rfl, rfl, rfl⟩

theorem errorEntered_issueFailed (s : State) (letter : Letter) (cause : WriteCause) :
    ErrorEntered s (s.issueFailed letter cause) :=
  ⟨_, rfl, rfl, rfl, rfl, rfl, rfl⟩

/-- A request fails the run only by the failed write of its command (R133). -/
theorem RequestMoved.errorEntered {u t : State} {r : Request} (h : RequestMoved u r t) (hu : u.ps ≠ .failed)
    (ht : t.ps = .failed) : ErrorEntered u t := by
  cases h with
  | refused | wroteNothing => exact absurd ht hu
  | started | issued | writeIssued | closed => cases ht
  | issueFailed | writeFailed => exact errorEntered_issueFailed u _ _

theorem PayloadMoved.errorEntered {v t : State} {p : Bytes} (h : PayloadMoved v p t) (ht : t.ps = .failed) :
    ErrorEntered v t := by
  cases h with
  | hello | okEnds | okNext | record => cases ht
  | other | error | invalid => exact errorEntered_raise v _
  | okNextFailed => exact errorEntered_issueFailed v _ _

/-- A received byte fails the run by an overflow (R117) or by the payload it completes. -/
theorem ByteMoved.errorEntered {v t : State} {b : Byte} (h : ByteMoved v b t) (hv : v.ps ≠ .failed)
    (ht : t.ps = .failed) : ErrorEntered v t := by
  cases h with
  | sof | discarded | accumulated => exact absurd ht hv
  | overflowed => exact errorEntered_raise v _
  | delivered _ hm => exact hm.errorEntered ht

/-! ## A step while nothing is in flight -/

theorem State.rxAppend_nil (s : State) : s.rxAppend [] = s := by
  simp [State.rxAppend]

/-- The block only takes in what the link appends, or a request. -/
theorem step_of_not_searching {s t : State} (hstep : step s = .next t) (hs : s.searching = false)
    (hreset : s.nextTurn ≠ .reset) :
    (∃ q, t = s.useTurn.rxAppend q ∧ (q = [] ∨ s.nextTurn = .arrive q) ∧ ∀ r, s.nextTurn ≠ .request r) ∨
      ∃ r, s.nextTurn = .request r ∧ exec (decodeRequest r) s.useTurn = .next t := by
  cases step_moved hstep with
  | passes h => exact .inl ⟨[], s.useTurn.rxAppend_nil.symm, .inl rfl, fun r hr => by simp [hr] at h⟩
  | reset h => exact absurd h hreset
  | arrived h => exact .inl ⟨_, rfl, .inr h, fun r hr => by simp [hr] at h⟩
  | readFailed _ hs' | received _ hs' => simp [hs] at hs'
  | requested h => exact .inr ⟨_, h, (step_request h).symm.trans hstep⟩

/-! ## A step always has a next state -/

theorem step_of_fetch_eq_none {s : State} (h : s.fetch = none) : step s = .next s.environment := by
  simp [step, h]

/-- The command in flight is known, and `H` is never drained (I-4, I-5): its response has a reaction. -/
theorem State.Inv.awaited {s : State} (h : s.Inv) (hs : s.searching = true) :
    ∃ op, s.cur = some op ∧ (s.ps = .commandSent ∨ (s.ps = .draining ∧ op ≠ .h)) := by
  obtain ⟨f, -, op, arg, hc, -⟩ := h.outstanding hs
  exact ⟨op, hc, ((State.searching_iff s).mp hs).imp_right fun hd => ⟨hd, fun ho => h.draining_cur hd (ho ▸ hc)⟩⟩

theorem exists_next_data (b : Byte) (s : State) : ∃ t, exec (.data b) s = .next t := by
  cases hi : s.inside with
  | false => exact ⟨_, execData_outside hi⟩
  | true =>
    cases hf : s.accFull with
    | false => exact ⟨_, execData_inside hi hf⟩
    | true => exact ⟨_, execData_overflow hi hf⟩

end Sys2Proof.Machine

namespace Sys2Proof.Statements

open Sys2Proof.Machine

/-! ## The model's refusals are the table of R221 -/

/-- Column by column, each row of a column with its control state. -/
theorem refusalOf_eq_refusalTable (s : State) (r : Request) : s.refusalOf r = refusalTable s.hs s.ps r := by
  cases r with
  | start =>
    rw [State.refusalOf, State.startRefusal]
    split <;> simp [refusalTable, *]
  | checkConnection =>
    rw [State.refusalOf, State.checkRefusal]
    split <;> simp [refusalTable, *]
  | read | clear | lock | unlock =>
    rw [State.refusalOf, State.operationRefusal]
    cases s.hs <;> split <;> simp [refusalTable, *]
  | write image =>
    rw [State.refusalOf, State.writeRefusal]
    cases s.hs <;> split <;> simp [refusalTable, Config.imageMax, *]
  | shutdown =>
    rw [State.refusalOf, State.shutdownRefusal]
    split <;> simp [refusalTable, *]

theorem exec_of_refusalTable {s : State} {r : Request} {reason : Reason} (h : refusalTable s.hs s.ps r = some reason) :
    exec (decodeRequest r) s = .next (s.refuse reason) :=
  exec_of_refused ((refusalOf_eq_refusalTable s r).trans h)

/-! ## A request, a received byte: each has a next state -/

/-- But for `START` and `SHUTDOWN` the table accepts a request in `Idle` only. -/
theorem idle_of_accepted {s : State} {r : Request} (h : s.refusalOf r = none) (hstart : r ≠ .start)
    (hshut : r ≠ .shutdown) : s.ps = .idle := by
  rw [refusalOf_eq_refusalTable] at h
  cases hps : s.ps with
  | idle => rfl
  -- `hstart` and `hshut` select the catch-all rows of `Unstarted` and `Failed`
  | unstarted | failed => simp [hps, refusalTable] at h
  | commandSent | draining | closed => simp [hps, refusalTable] at h

/-- A request has a next state in every state: its refusal, or what it does where the table accepts it. -/
theorem exists_next_request (r : Request) (s : State) : ∃ t, exec (decodeRequest r) s = .next t := by
  cases hg : s.refusalOf r with
  | some reason => exact ⟨_, exec_of_refused hg⟩
  | none =>
    cases r with
    | start =>
      have hg : s.startRefusal = none := hg
      simp [decodeRequest, exec, execStart, hg]
    | checkConnection | read | clear | lock | unlock =>
      rw [exec_of_requestLetter rfl hg]
      exact issue_of_idle _ _ (idle_of_accepted hg (by simp) (by simp))
    | write image =>
      have hi : s.ps = .idle := idle_of_accepted hg (by simp) (by simp)
      cases image with
      | nil => exact ⟨_, execWrite_nil hg⟩
      | cons d rest =>
        have hrun := execWrite_of_ne_nil hg (List.cons_ne_nil d rest)
        rw [issueW_some rfl] at hrun
        obtain ⟨t, ht⟩ := issue_of_idle .w (wArg 0#16 d) (v := { s with img := d :: rest, wrIdx := 0#16 }) hi
        exact ⟨t, hrun.trans ht⟩
    | shutdown => exact ⟨_, execShutdown_of_accepted hg⟩

/-- A byte received for a command in flight has a next state: the frame it may end is an awaited one (statement O15). -/
theorem exists_next_byte {v : State} (hv : v.Inv) (hs : v.searching = true) (b : Byte) :
    ∃ t, exec (decodeByte b) v = .next t := by
  obtain ⟨rfl, e⟩ | ⟨rfl, e⟩ | ⟨-, e⟩ := decodeByte_cases b <;> rw [e]
  · exact ⟨_, rfl⟩
  · cases hi : v.inside with
    | false => exact ⟨v, execEof_outside hi⟩
    | true =>
      obtain ⟨op, hc, hawaited⟩ := hv.awaited hs
      obtain ⟨t, ht, -⟩ := eofOfAnAwaitedFrameCompletes v op hi hc hv.img_length hawaited
      exact ⟨t, ht⟩
  · exact exists_next_data b v

/-! ## The obligations -/

/-- Settles O55: a turn of the environment always answers, a request in every state, and a byte is received only for a command
in flight, whose response the invariant says is awaited. -/
theorem noStepStops : Obligations.NoStepStops := by
  intro s hinv
  cases hturn : s.nextTurn with
  | request r =>
    rw [step_request hturn]
    exact exists_next_request r s.useTurn
  | reset | arrive | rxFail => exact ⟨_, step_of_fetch_eq_none (by simp [State.fetch, hturn])⟩
  | rxByte =>
    cases hs : s.searching with
    | false => exact ⟨_, step_rxByte_of_not_searching hturn hs⟩
    | true =>
      cases hq : s.rxq with
      | nil => exact ⟨_, step_rxByte_of_rxq_nil hturn hq⟩
      | cons b rest =>
        rw [step_rxByte hturn hs hq]
        exact exists_next_byte (hinv.useTurn.withRxq rest) hs b

/-- Settles O41: the moves that end in `Failed` are the error entries, of a read failure, a request's write, a byte's frame. -/
theorem errorEntryIsPrecise : Obligations.ErrorEntryIsPrecise := by
  intro s t hstep hrunning hfailed
  change ErrorEntered s t
  cases step_moved hstep with
  | passes | arrived => exact absurd hfailed hrunning
  | reset => cases hfailed
  | readFailed => exact errorEntered_raise s.useTurn _
  | requested _ hm => exact hm.errorEntered hrunning hfailed
  | received _ _ _ hm => exact hm.errorEntered hrunning hfailed

/-- Settles O31: in the three states nothing refuses `SHUTDOWN`. -/
theorem shutdownClosesTheRun : Obligations.ShutdownClosesTheRun := by
  intro s hps
  exact execShutdown_of_accepted (State.shutdownRefusal_eq_none hps)

/-- Settles O32: the model's refusals are the table's, a refused request reports its refusal, and no result of an accepted one is
a refusal. -/
theorem refusalsFollowTheTable : Obligations.RefusalsFollowTheTable := by
  refine ⟨fun s r => ⟨fun reason => exec_of_refusalTable, fun htable t reason hexec hresults => ?_⟩, rfl⟩
  have hg : s.refusalOf r = none := (refusalOf_eq_refusalTable s r).trans htable
  obtain hnone | ⟨x, hx, hne⟩ := (request_moved hexec).results_of_accepted hg
  · simp [hnone] at hresults
  · exact hne reason (by simpa [hx] using hresults)

/-- Settles O42: with nothing in flight only a request does more than the link, and in `Failed` the table refuses it with
`RunFailed` or it is `SHUTDOWN` (O31). -/
theorem failedIsSticky : Obligations.FailedIsSticky := by
  intro s t hstep hps hreset
  have hs : s.searching = false := State.searching_eq_false (by simp [hps])
  obtain ⟨q, rfl, hq, hno⟩ | ⟨r, hr, hexec⟩ := step_of_not_searching hstep hs hreset
  · exact ⟨q, [], by rw [List.append_nil]; rfl, hq, .inl hps, fun r hr => absurd hr (hno r), fun _ => rfl⟩
  · have honly {r'} (hr' : s.nextTurn = .request r') : r' = r := Turn.request.inj (hr'.symm.trans hr)
    by_cases hshut : r = .shutdown
    · subst hshut
      have hclosed := shutdownClosesTheRun s.useTurn (.inr (.inr hps))
      obtain rfl := Host.Outcome.next.inj (hexec.symm.trans hclosed)
      exact ⟨[], [.success], by rw [List.append_nil]; rfl, .inl rfl, .inr ⟨rfl, hr⟩, fun r' hr' => by simp [honly hr'],
        fun hno => absurd hr (hno _)⟩
    · have htable : refusalTable s.useTurn.hs s.useTurn.ps r = some .runFailed := by simp [hps, refusalTable]
      obtain rfl := Host.Outcome.next.inj (hexec.symm.trans (exec_of_refusalTable htable))
      exact ⟨[], [.refused .runFailed], by rw [List.append_nil]; rfl, .inl rfl, .inl hps,
        fun r' hr' => by simp [honly hr', hshut], fun hno => absurd hr (hno _)⟩

/-- Settles O43: with nothing in flight only a request does more than the link, and in `Closed` the table refuses it with
`Closed`. -/
theorem closedIsFinal : Obligations.ClosedIsFinal := by
  intro s t hstep hps hreset
  have hs : s.searching = false := State.searching_eq_false (by simp [hps])
  obtain ⟨q, rfl, hq, hno⟩ | ⟨r, hr, hexec⟩ := step_of_not_searching hstep hs hreset
  · exact ⟨q, [], by rw [List.append_nil]; rfl, hq, fun r hr => absurd hr (hno r), fun _ => rfl⟩
  · have htable : refusalTable s.useTurn.hs s.useTurn.ps r = some .closed := by simp [hps, refusalTable]
    obtain rfl := Host.Outcome.next.inj (hexec.symm.trans (exec_of_refusalTable htable))
    exact ⟨[], [.refused .closed], by rw [List.append_nil]; rfl, .inl rfl, fun _ _ => rfl, fun hno => absurd hr (hno r)⟩

/-- Settles O33: each code is a numeral, whatever the cause. -/
theorem resultCodes : Obligations.ResultCodes :=
  ⟨rfl, fun _ => rfl, fun _ => rfl, rfl, fun _ => rfl, rfl⟩

end Sys2Proof.Statements
end

section
/-! Reset and the hazards (70_reset_and_hazards.md): the reset input and the invariant after it, a frame search that completes no
frame, and the way from a run not yet started to the accepted handshake. -/

namespace Sys2Proof.Machine

theorem step_reset {s : State} (h : s.nextTurn = .reset) : step s = .next s.useTurn.resetInput := by
  simp [step, State.fetch, State.environment, h]

theorem State.resetInput_reset : State.reset.resetInput = State.reset := rfl

end Sys2Proof.Machine

namespace Sys2Proof.Statements

open Sys2Proof.Machine

/-! ## A search that completes no frame (R114, R256) -/

/-- From any stand of the scanner, bytes that complete no frame are all read and leave only the scanner's registers changed. -/
theorem run_search_unfinished {s : State} {later : List Turn} (hs : s.searching = true) (hmax : s.params.payloadMax = none)
    (hacc : s.inside = false → s.acc = []) (hread : readFrame s.inside s.acc s.rxq = none)
    (hsched : s.sched = List.replicate s.rxq.length Turn.rxByte ++ later) :
    ∃ inside acc, run s.rxq.length s = .next { s with inside := inside, acc := acc, rxq := [], sched := later } := by
  generalize hq : s.rxq = q at hread hsched ⊢
  induction q generalizing s with
  | nil =>
    obtain rfl : s.sched = later := hsched
    refine ⟨s.inside, s.acc, (run_zero s).trans ?_⟩
    rw [← hq]
  | cons b q ih =>
    have hstep := (step_scheduled_read hs hq hsched).trans (byteRulesRefineScan _ b hmax hacc)
    obtain ⟨inside, acc, hscan, hacc'⟩ | hscan := scan_cases s.inside s.acc b
    · rw [readFrame_of_scan_none hscan] at hread
      simp only [hscan] at hstep
      rw [List.length_cons, run_succ_of_next _ hstep]
      exact ih hs hmax hacc' rfl hread rfl
    · simp [readFrame_of_scan_some hscan q] at hread

/-! ## From the start to the handshake (R244) -/

/-- `START` before the start of the run: the queue is drained and the block waits for the host (R140). -/
def started (s : State) (turns : List Turn) : State :=
  { s with
    inside := false, acc := [], ps := .idle
    results := s.results ++ [.success]
    rxq := []
    sched := turns }

/-- `START` and then `CHECK_CONNECTION`, its `H` written: the response is awaited, `q` in the queue (R141). -/
def handshaking (s : State) (q : Bytes) (turns : List Turn) : State :=
  { s.useTxAnswer with
    inside := false, acc := [], ps := .commandSent, cur := some .h, pos := 0#4
    tx := s.tx ++ [[0x3C#8, 0x48#8, 0x3D#8]]
    results := s.results ++ [.success]
    rxq := q
    sched := turns }

section
variable {s : State} {later : List Turn}

theorem step_start (hps : s.ps = .unstarted) (hsched : s.sched = .request .start :: later) :
    step s = .next (started s later) := by
  rw [step_request (State.nextTurn_of_cons hsched), State.useTurn_of_cons hsched]
  exact startDrainsTheLink { s with sched := later } hps

theorem step_checkConnection_started (ha : s.nextTxAnswer = .done) :
    step (started s (.request .checkConnection :: later)) = .next (handshaking s [] later) := by
  obtain ⟨hsent, -⟩ := checkConnectionIssuesHello (started s later) rfl
  rw [step_request (State.nextTurn_of_cons rfl), State.useTurn_of_cons rfl]
  exact hsent ha

theorem step_arrive_handshaking (bytes : Bytes) :
    step (handshaking s [] (.arrive bytes :: later)) = .next (handshaking s bytes later) := by
  rw [step_arrive (State.nextTurn_of_cons rfl), State.useTurn_of_cons rfl]
  rfl

/-- The frame `HELLO`, read byte by byte, ends the handshake with its last byte (R143). -/
theorem run_hello_handshaking (hmax : s.params.payloadMax = none) :
    run 7 (handshaking s (rspFrame Config.helloText) (List.replicate 7 Turn.rxByte ++ later)) =
      .next { handshaking s [] later with hs := true, ps := .idle, results := s.results ++ [.success] ++ [.success] } := by
  have hread := frameSearchDeliversTheFrame
    (handshaking s (rspFrame Config.helloText) (List.replicate 7 Turn.rxByte ++ later)) Config.helloText [] later
    rfl rfl rfl hmax rfl rfl
  exact hread.trans (helloEndsTheHandshake (handshaking s [] later) rfl rfl)

end

/-! ## The obligations -/

/-- Settles O48: the state `run_search_unfinished` leaves is still searching, since the control state is untouched. -/
theorem frameSearchHasNoBound : Obligations.FrameSearchHasNoBound := by
  intro s later hs hmax hacc hread hsched
  obtain ⟨inside, acc, hrun⟩ := run_search_unfinished hs hmax hacc hread hsched
  exact ⟨_, hrun, hs, rfl, rfl⟩

/-- Settles O50: `START`, `CHECK_CONNECTION`, the arrival of `HELLO`, and its seven bytes read, each leg by its own lemma. -/
theorem bootReachesIdle : Obligations.BootReachesIdle := by
  intro s later hps hmax ha hsched
  simp only [List.cons_append, List.nil_append] at hsched
  rw [run_succ_of_next 9 (step_start hps hsched), run_succ_of_next 8 (step_checkConnection_started ha),
    run_succ_of_next 7 (step_arrive_handshaking _)]
  refine (run_hello_handshaking hmax).trans ?_
  rw [List.append_assoc]
  rfl

/-- Settles O11: the environment's move of a reset turn is `resetInput`, by `step_reset`. -/
theorem stepOfTheResetInput : Obligations.StepOfTheResetInput := by
  intro s h
  exact step_reset h

/-- Settles O53: the reset input leads to the invariant from every state, and it leaves the state after reset as it is. -/
theorem resetMeetsTheInvariant : Obligations.ResetMeetsTheInvariant := by
  have hinv := State.reset.inv_resetInput
  rwa [State.resetInput_reset] at hinv

end Sys2Proof.Statements
end
